-- ==== Sys2Proof/Word.lean ====
section
/-! DEFINITION. The word types of the SRS, with the widths the spec gives them (00_scope.md R11, R12). -/

namespace Sys2Proof

/-- One sensor register, one bus byte (R11 `REG_DATA_WIDTH`). -/
abbrev Byte := BitVec 8

/-- A sensor register address (R11 `REG_ADDR_WIDTH`, R55). -/
abbrev RegAddr := BitVec 16

/-- A two-wire device address (R22). -/
abbrev DevAddr := BitVec 7

/-- A command word (R70). -/
abbrev CmdWord := BitVec 64

/-- The operand word `OPND`, a response result, a binary32 pattern, an i32 (R71, R82). -/
abbrev Word32 := BitVec 32

/-- A gain-tier index, 0 to 7 (R24, R190). -/
abbrev TierIdx := BitVec 3

end Sys2Proof
end

