-- ==== Sys2Proof/Config.lean ====
section
/-! DEFINITION. The parameters of R11 as plain data, and the values the spec leaves open as constants
without a body: nothing in Lean can evaluate them. -/

namespace Sys2Proof

/-- `P_ALS_READY_TEST` (R11, R148; 90_conflicts.md C1): the two readings of the ALS readiness test. -/
inductive AlsReadyTest where
  | fieldEq
  | bit2
deriving DecidableEq, Repr

/-- `P_LUX_FN` (R11, R160): the default `LuxRef`, or another function, which the spec does not name. -/
inductive LuxSel where
  | luxRef
  | other
deriving DecidableEq, Repr

/-- The implementation parameters of R11 that the spec does not fix. They are an argument of the model,
carried unchanged in State: no step writes them. -/
structure Params where
  /-- `P_POLL_LIMIT`: `none`, or a natural `N >= 1` (R146). -/
  pollLimit : Option Nat
  /-- `P_STRICT_PARAMS` (R201, R212). -/
  strictParams : Bool
  /-- `P_ALS_READY_TEST` (R148). -/
  alsReadyTest : AlsReadyTest
  /-- `P_LUX_FN` (R160). -/
  luxFn : LuxSel
  /-- `P_ADDR_ALS_GAIN`, OPEN in the spec (R56, D10). -/
  addrAlsGain : RegAddr
  /-- `P_ADDR_ALS_IPERIOD`, OPEN in the spec (R56, D10). -/
  addrAlsIPeriod : RegAddr
deriving DecidableEq, Repr

/-- One draw of the bus oracle, in a form that answers whichever transaction consumes it (R52, R53):
a write answers `ok` when `ack` holds and `fail` otherwise; a read of one byte answers `[b0]`, a read
of two bytes `[b0, b1]`, when `ack` holds, and `fail` otherwise (log entry 1). -/
structure BusDraw where
  ack : Bool
  b0 : Byte
  b1 : Byte
deriving DecidableEq, Repr, Inhabited

namespace Config

/-- The addresses R56 gives its other registers: range-start, ALS-start, interrupt-status, ALS-result (two
bytes), range-result, interleaved-enable. -/
def fixedAddrs : List RegAddr := [0x0018, 0x0038, 0x004F, 0x0050, 0x0051, 0x0062, 0x02A3]

/-- What R55, R56, R240 and R280 ask of the two OPEN addresses: each row of R56 is a register of its own, so
neither is an address of another row, and interrupt-status above all "is never written": DEDUCED, log entry
22. -/
def addrsDistinct (gain period : RegAddr) : Bool :=
  !fixedAddrs.contains gain && !fixedAddrs.contains period && gain != period

/-- Two addresses that the OPEN parameters can have. -/
abbrev OpenAddrs : Type := { a : RegAddr × RegAddr // addrsDistinct a.1 a.2 = true }

/-- `P_ADDR_ALS_GAIN` and `P_ADDR_ALS_IPERIOD`: the spec leaves the addresses OPEN (R11, D10; log entry 4). The
argument only shows that such addresses exist, and no value follows from it. -/
opaque openAddrs [Inhabited OpenAddrs] : OpenAddrs

/-- The two OPEN addresses, the gain register's first. -/
def addrs : OpenAddrs := @openAddrs ⟨⟨(0xFFFE, 0xFFFF), by decide⟩⟩

/-- `P_ADDR_ALS_GAIN` (R11). -/
def addrAlsGain : RegAddr := addrs.1.1

/-- `P_ADDR_ALS_IPERIOD` (R11). -/
def addrAlsIPeriod : RegAddr := addrs.1.2

/-- The bus oracle's answer to the `n`-th transaction when no answer stands in State already: a free
value "under no law" (R9, R52, R53; log entry 2). -/
opaque freeDraw : Nat → BusDraw

/-- A `P_LUX_FN` other than `LuxRef` (R160): any function of raw value, tier index and period
(log entry 5). -/
opaque otherLuxFn : BitVec 16 → TierIdx → Word32 → Word32

end Config

/-- The spec's defaults (R11); the two OPEN addresses are the opaque pair. -/
def Params.default : Params where
  pollLimit := none
  strictParams := false
  alsReadyTest := .fieldEq
  luxFn := .luxRef
  addrAlsGain := Config.addrAlsGain
  addrAlsIPeriod := Config.addrAlsIPeriod

end Sys2Proof
end

