-- ==== Sys2Proof/Syntax.lean ====
section
/-! DEFINITION. The commands of the SRS, one constructor per row of spec/opcode_table.json
(30_encoding.md R72, R75), the sensor's modes, and the reasons a word spells no command. -/

namespace Sys2Proof

/-- The seven operating modes, in the order the spec lists them (R75). -/
inductive Mode where
  | rangeSingleShot
  | alsSingleShot
  | alsContinuous
  | rangeContinuous
  | rangeContinuousAlsSingleShot
  | rangeSingleShotAlsContinuous
  | interleaved
deriving DecidableEq, Repr

/-- The commands (R72). `SETM` has one constructor per mode, as the opcode table has one row per mode.
Operands are the command word's `OPND` bit for bit (R73, R74). -/
inductive Instr where
  /-- `CLRM`, `clearModes()` (R110). -/
  | clrmodes
  /-- `SETM rss` (R120). -/
  | setmodeRss
  /-- `SETM ass` (R121). -/
  | setmodeAss
  /-- `SETM acont` (R122). -/
  | setmodeAcont
  /-- `SETM rcont` (R123). -/
  | setmodeRcont
  /-- `SETM rcont_ass` (R124). -/
  | setmodeRcontAss
  /-- `SETM rss_acont` (R125). -/
  | setmodeRssAcont
  /-- `SETM ilv` (R126). -/
  | setmodeIlv
  /-- `RDRS`, `readRangeSingleShot()` (R140). -/
  | rdrangeSs
  /-- `RDAS`, `readAlsSingleShot()` (R155). -/
  | rdalsSs
  /-- `SETG`, `setAnalogGain(requested)`; the operand is a binary32 pattern (R73, R200). -/
  | setgain (requested : Word32)
  /-- `SETP`, `setIntegrationPeriod(ms)`; the operand is an i32 (R74, R211). -/
  | setperiod (ms : Word32)
  /-- `RDRC`, refused with `UNIMPLEMENTED` (R170). -/
  | rdrangeCont
  /-- `RDAC`, refused with `UNIMPLEMENTED` (R171). -/
  | rdalsCont
deriving DecidableEq, Repr

/-- Why a word spells no command, one reason per check of R80's `decode`, in its order. The SRS answers
`ILLEGAL_COMMAND` to each of them (R81). -/
inductive Illegal where
  /-- `RSV` is not 0 (R77). -/
  | reservedBits
  /-- `OP` is `0x0` or `0x9` to `0xF` (R78). -/
  | reservedOpcode
  /-- `MODE` is not 0 and `OP` is not `0x2` (R77). -/
  | modeBits
  /-- `OPND` is not 0 and `OP` is not `0x5` or `0x6` (R77). -/
  | operandBits
  /-- `OP` is `0x2` and `MODE` is 7 (R76). -/
  | reservedMode
deriving DecidableEq, Repr

end Sys2Proof
end

