-- ==== Sys2Proof/WellFormed.lean ====
section
/-! DEFINITION. What is checked before a term means anything: the parameters of R11, and the commands.
Every command of Syntax.lean is well formed, since "Every 32-bit pattern is a legal operand" (R73, R74)
and `SETM` has one constructor per legal mode; the words that spell no command are refused by Decode.lean. -/

namespace Sys2Proof

/-- Every constructor, with every operand pattern, is a command (R73, R74, R75). -/
def Instr.wf : Instr → Bool
  | .clrmodes => true
  | .setmodeRss => true
  | .setmodeAss => true
  | .setmodeAcont => true
  | .setmodeRcont => true
  | .setmodeRcontAss => true
  | .setmodeRssAcont => true
  | .setmodeIlv => true
  | .rdrangeSs => true
  | .rdalsSs => true
  | .setgain _ => true
  | .setperiod _ => true
  | .rdrangeCont => true
  | .rdalsCont => true

/-- `P_POLL_LIMIT` is `none` or a natural `N >= 1` (R11). -/
def Params.pollLimitWf (p : Params) : Bool :=
  match p.pollLimit with
  | none => true
  | some n => decide (1 ≤ n)

/-- The parameters have values of R11, and the two OPEN addresses are registers of their own (R56, R240,
R280). -/
def Params.wf (p : Params) : Bool :=
  p.pollLimitWf && Config.addrsDistinct p.addrAlsGain p.addrAlsIPeriod

end Sys2Proof
end

