-- ==== Sys2Proof/Decode.lean ====
section
/-! DEFINITION. The command word (30_encoding.md R70 to R81): its fields, the decoder, total on every
64-bit word and refusing by name, and the encoder. -/

namespace Sys2Proof

/-! ### Fields of a command word (R71) -/

/-- `OP`, `w[3:0]`. -/
def opField (w : CmdWord) : BitVec 4 := w.extractLsb' 0 4

/-- `MODE`, `w[6:4]`. -/
def modeField (w : CmdWord) : BitVec 3 := w.extractLsb' 4 3

/-- `RSV`, `w[31:7]`. -/
def rsvField (w : CmdWord) : BitVec 25 := w.extractLsb' 7 25

/-- `OPND`, `w[63:32]`. -/
def opndField (w : CmdWord) : Word32 := w.extractLsb' 32 32

/-- The word with these fields; `a : b` places `a` above `b` (R12, R71). -/
def packWord (opnd : Word32) (rsv : BitVec 25) (mode : BitVec 3) (op : BitVec 4) : CmdWord :=
  opnd ++ (rsv ++ (mode ++ op))

/-! ### Mode numbers (R75), the values of `CFG_MODE` (R23) -/

/-- The number of a mode. -/
def Mode.code : Mode → BitVec 3
  | .rangeSingleShot => 0
  | .alsSingleShot => 1
  | .alsContinuous => 2
  | .rangeContinuous => 3
  | .rangeContinuousAlsSingleShot => 4
  | .rangeSingleShotAlsContinuous => 5
  | .interleaved => 6

/-! ### Decoder -/

/-- The `SETM` command of a mode field; 7 is reserved (R75, R76). -/
def decodeSetMode (mode : BitVec 3) : Except Illegal Instr :=
  match mode with
  | 0 => .ok .setmodeRss
  | 1 => .ok .setmodeAss
  | 2 => .ok .setmodeAcont
  | 3 => .ok .setmodeRcont
  | 4 => .ok .setmodeRcontAss
  | 5 => .ok .setmodeRssAcont
  | 6 => .ok .setmodeIlv
  | _ => .error .reservedMode

/-- The command of an opcode with its mode and operand fields; `0x0` and `0x9` to `0xF` are reserved
(R72, R78). -/
def decodeOp (op : BitVec 4) (mode : BitVec 3) (opnd : Word32) : Except Illegal Instr :=
  match op with
  | 0x1 => .ok .clrmodes
  | 0x2 => decodeSetMode mode
  | 0x3 => .ok .rdrangeSs
  | 0x4 => .ok .rdalsSs
  | 0x5 => .ok (.setgain opnd)
  | 0x6 => .ok (.setperiod opnd)
  | 0x7 => .ok .rdrangeCont
  | 0x8 => .ok .rdalsCont
  | _ => .error .reservedOpcode

/-- `op in {0x1..0x8}` (R80). -/
def opcodeAssigned (op : BitVec 4) : Bool := decide (1 ≤ op.toNat ∧ op.toNat ≤ 8)

/-- `decode(w : u64)` of R80, its checks in the spec's order. -/
def decode (w : CmdWord) : Except Illegal Instr :=
  let op := opField w
  let mode := modeField w
  let opnd := opndField w
  if rsvField w ≠ 0 then .error .reservedBits
  else if opcodeAssigned op = false then .error .reservedOpcode
  else if op ≠ 0x2 ∧ mode ≠ 0 then .error .modeBits
  else if (op ≠ 0x5 ∧ op ≠ 0x6) ∧ opnd ≠ 0 then .error .operandBits
  else if op = 0x2 ∧ mode = 7 then .error .reservedMode
  else decodeOp op mode opnd

/-! ### Encoder -/

/-- The opcode of a command (R72). -/
def Instr.op : Instr → BitVec 4
  | .clrmodes => 0x1
  | .setmodeRss => 0x2
  | .setmodeAss => 0x2
  | .setmodeAcont => 0x2
  | .setmodeRcont => 0x2
  | .setmodeRcontAss => 0x2
  | .setmodeRssAcont => 0x2
  | .setmodeIlv => 0x2
  | .rdrangeSs => 0x3
  | .rdalsSs => 0x4
  | .setgain _ => 0x5
  | .setperiod _ => 0x6
  | .rdrangeCont => 0x7
  | .rdalsCont => 0x8

/-- The `MODE` field of a command: the mode number of `SETM`, 0 for every other opcode (R71, R75). -/
def Instr.modeBits : Instr → BitVec 3
  | .clrmodes => 0
  | .setmodeRss => 0
  | .setmodeAss => 1
  | .setmodeAcont => 2
  | .setmodeRcont => 3
  | .setmodeRcontAss => 4
  | .setmodeRssAcont => 5
  | .setmodeIlv => 6
  | .rdrangeSs => 0
  | .rdalsSs => 0
  | .setgain _ => 0
  | .setperiod _ => 0
  | .rdrangeCont => 0
  | .rdalsCont => 0

/-- The `OPND` field of a command: the operand of `SETG` and `SETP`, 0 for every other opcode (R71). -/
def Instr.opnd : Instr → Word32
  | .clrmodes => 0
  | .setmodeRss => 0
  | .setmodeAss => 0
  | .setmodeAcont => 0
  | .setmodeRcont => 0
  | .setmodeRcontAss => 0
  | .setmodeRssAcont => 0
  | .setmodeIlv => 0
  | .rdrangeSs => 0
  | .rdalsSs => 0
  | .setgain requested => requested
  | .setperiod ms => ms
  | .rdrangeCont => 0
  | .rdalsCont => 0

/-- The command word of a command (R71): reserved bits 0. -/
def encode (i : Instr) : CmdWord := packWord i.opnd 0 i.modeBits i.op

/-! ### The host's view of the opcode table -/

/-- The command word of a table word: bits at and above `nbits` are 0. -/
def tableWord (nbits w : Nat) : CmdWord := BitVec.ofNat 64 (w % 2 ^ nbits)

/-- What the decoder reads from a word numbered as spec/opcode_table.json numbers it: the SRS takes the
whole 64-bit word at its command port (R70), so no byte order enters. -/
def decodeTableWord (nbits w : Nat) : Option Instr := (decode (tableWord nbits w)).toOption

end Sys2Proof
end

