-- ==== Sys2Proof/Machine/State.lean ====
section
/-! DEFINITION. The state of the SRS (10_state.md), the agents around it as plain data, the reasons a
step can stop, and the state after reset. -/

namespace Sys2Proof.Machine

/-- `SEQ_STATE`, the sequencer's control state (R29). -/
inductive SeqState where
  | idle
  | clr0
  | clr1
  | clr2
  | mwr
  | trig
  | poll
  | res
  | gwr
  | pwr
deriving DecidableEq, Repr

/-- The channel of a measurement command (R144). -/
inductive Channel where
  | range
  | als
deriving DecidableEq, Repr

/-- The response statuses (R230). -/
inductive Status where
  | ok
  | transportFailure
  | invalidParameter
  | timeout
  | illegalCommand
  | unimplemented
  | luxDomain
deriving DecidableEq, Repr

/-- The events of a run (R14). A bus event also carries the device address of the transaction (R51). -/
inductive Event where
  /-- `Accept(w)`. -/
  | accept (w : CmdWord)
  /-- `BusW(reg, b, answer)`: a write of one byte, answered `ok` (true) or `fail` (false). -/
  | busW (dev : DevAddr) (reg : RegAddr) (b : Byte) (ok : Bool)
  /-- `BusR(reg, n, answer)`: a read of `n` bytes, answered by bytes or by `fail` (`none`). -/
  | busR (dev : DevAddr) (reg : RegAddr) (n : Nat) (answer : Option (List Byte))
  /-- `Resp(status, result)`. -/
  | resp (status : BitVec 8) (result : Word32)
deriving DecidableEq, Repr

/-- Why a step stops with a fault. -/
inductive Fault where
  /-- The sequencer holds a control state that no row of R30 gives the latched command ("No other
  transition exists"). Raised by every meaning, and by `step` when the latches spell no command. Safe:
  no run from reset reaches such a state, and the model stops there. -/
  | noTransition
deriving DecidableEq, Repr

/-- Why an instruction has no meaning. -/
inductive Refusal where
  /-- Raised by an arm of `exec` whose instruction is not modelled. Safe. No arm raises it. -/
  | notModelled (mnemonic : String)
deriving DecidableEq, Repr

/-- The machine. The first three groups are the state of R20; the last two are the model's own. -/
@[ext]
structure State where
  /-- `CFG_DEVADDR : u7` (R22). -/
  cfgDevAddr : DevAddr
  /-- `CFG_MODE : u3` (R23). -/
  cfgMode : BitVec 3
  /-- `CFG_GAIN_IDX : u3` (R24). -/
  cfgGainIdx : TierIdx
  /-- `CFG_IPERIOD : i32`, two's complement (R25). -/
  cfgIPeriod : Word32
  /-- `SEQ_STATE` (R29). -/
  seqState : SeqState
  /-- `LAT_OP : u4` (R27). -/
  latOp : BitVec 4
  /-- `LAT_MODE : u3` (R27). -/
  latMode : BitVec 3
  /-- `LAT_OPND : u32` (R27). -/
  latOpnd : Word32
  /-- `LAT_TIER : u3` (R27). -/
  latTier : TierIdx
  /-- `POLL_CNT`, a natural number (R28). -/
  pollCnt : Nat
  /-- `RSP_STATUS : u8` (R31). -/
  rspStatus : BitVec 8
  /-- `RSP_RESULT : u32` (R31). -/
  rspResult : Word32
  /-- The parameters of R11: an argument of the model, never written (log entry 3). -/
  params : Params
  /-- The event trace, oldest event first (R14). -/
  trace : List Event
  /-- The command words the host submits, in order, each when the port is ready (R246; log entry 6). -/
  hostCmds : List CmdWord
  /-- The reset input at the coming steps, one entry a step; not asserted where no entry stands
  (R270, R271; log entry 7). -/
  resetIn : List Bool
  /-- The bus oracle's coming answers, one a transaction (R52, R53; log entry 2). -/
  busAnswers : List BusDraw
  /-- How many transactions have been answered: the index of the oracle's free value (log entry 2). -/
  drawCount : Nat
deriving DecidableEq, Repr

/-- The state after reset (R34). The latches, which R27 leaves unspecified, are 0 (log entry 8). -/
def State.reset : State where
  cfgDevAddr := 0x29
  cfgMode := 0
  cfgGainIdx := 0
  cfgIPeriod := 100
  seqState := .idle
  latOp := 0
  latMode := 0
  latOpnd := 0
  latTier := 0
  pollCnt := 0
  rspStatus := 0
  rspResult := 0
  params := Params.default
  trace := []
  hostCmds := []
  resetIn := []
  busAnswers := []
  drawCount := 0

end Sys2Proof.Machine
end

