-- ==== Sys2Proof/Machine/Operands.lean ====
section
/-! DEFINITION. The operand forms and the conversions over them: binary32 (00_scope.md R15), the gain
tables and selector (42_quantizers.md R190 to R194), the period encoder (R210), the big-endian ALS
result (20_memory.md R58), the lux conversion (41_measurement.md R160), and the register addresses and
codes (20_memory.md R56). -/

namespace Sys2Proof.Machine

/-! ### Sensor registers (R11, R56) -/

/-- `A_RANGE_START`. -/
def regRangeStart : RegAddr := 0x0018

/-- `A_ALS_START`. -/
def regAlsStart : RegAddr := 0x0038

/-- `A_INT_STATUS`. -/
def regIntStatus : RegAddr := 0x004F

/-- `A_ALS_RESULT`. -/
def regAlsResult : RegAddr := 0x0050

/-- `A_RANGE_RESULT`. -/
def regRangeResult : RegAddr := 0x0062

/-- `A_INTERLEAVED`. -/
def regInterleaved : RegAddr := 0x02A3

/-- The value a clear write carries (R101). -/
def clearCode : Byte := 0x00

/-- The single-measurement start code (R143). -/
def startCode : Byte := 0x01

/-- The continuous-enable code (R122 to R125). -/
def continuousCode : Byte := 0x03

/-- The interleaved-enable code (R126). -/
def interleavedCode : Byte := 0x01

/-- `start_reg(ch)` (R143). -/
def Channel.startReg : Channel → RegAddr
  | .range => regRangeStart
  | .als => regAlsStart

/-! ### Binary32 (R15; general knowledge, G1) -/

/-- The biased exponent. -/
def f32Exp (x : Word32) : Nat := (x.extractLsb' 23 8).toNat

/-- The fraction. -/
def f32Frac (x : Word32) : Nat := (x.extractLsb' 0 23).toNat

/-- "exponent bits all ones and a non-zero fraction" (R15). -/
def f32IsNaN (x : Word32) : Bool := f32Exp x == 255 && f32Frac x != 0

/-- The magnitude in units of `2^-149`, the smallest subnormal: exact for every finite pattern, and for
the infinities a number above every finite one. -/
def f32Mag (x : Word32) : Nat :=
  if f32Exp x = 0 then f32Frac x else (2 ^ 23 + f32Frac x) * 2 ^ (f32Exp x - 1)

/-- The signed value in units of `2^-149`; both zeros are 0. -/
def f32Units (x : Word32) : Int := if x.msb then -(f32Mag x : Int) else (f32Mag x : Int)

/-- `x <= y`, false if either operand is a NaN (R15). -/
def f32Le (x y : Word32) : Bool := !f32IsNaN x && !f32IsNaN y && decide (f32Units x ≤ f32Units y)

/-- `x > y`, false if either operand is a NaN (R15). -/
def f32Gt (x y : Word32) : Bool := !f32IsNaN x && !f32IsNaN y && decide (f32Units y < f32Units x)

/-- `n / d` rounded to the nearest natural number, a tie to the even one. -/
def roundHalfEven (n d : Nat) : Nat :=
  let q := n / d
  let r := n % d
  if d < 2 * r ∨ (2 * r = d ∧ q % 2 = 1) then q + 1 else q

/-- The biased exponent, at least 1, of the binade that holds `v` units of `2^-149`. -/
def binadeOf (v : Nat) : Nat := if v < 2 ^ 24 then 1 else Nat.log2 v - 22

/-- `RNE32(n / d)` for a rational at least 0 (R15): the significand in units of the binade's last place,
rounded once. A significand rounded up to `2^24` carries into the exponent by the addition, and a value
beyond the largest finite one gives `+inf`: DEDUCED from R15's IEEE 754, log entry 19. -/
def rne32 (n d : Nat) : Word32 :=
  let e := binadeOf (n * 2 ^ 149 / d)
  let sig := roundHalfEven (n * 2 ^ 149) (d * 2 ^ (e - 1))
  BitVec.ofNat 32 (min ((e - 1) * 2 ^ 23 + sig) 0x7F800000)

/-! ### Gain tiers (R190, R191) -/

/-- `TIER_BP`, the binary32 breakpoints in ascending order (R190). -/
def tierBreakpoints : List Word32 :=
  [0x3F800000, 0x3FA00000, 0x3FD5C28F, 0x40200000, 0x40A00000, 0x41200000, 0x41A00000, 0x42200000]

/-- `TIER_VALUE`, the nominal tier values as exact fractions (R160, R190). -/
def tierValues : Vector (Nat × Nat) 8 :=
  #v[(1, 1), (5, 4), (167, 100), (5, 2), (5, 1), (10, 1), (20, 1), (40, 1)]

/-- `TIER_CODE` (R191). -/
def tierCodes : Vector (BitVec 3) 8 := #v[6, 5, 4, 3, 2, 1, 0, 7]

/-- `TIER_VALUE[i]`. -/
def tierValue (i : TierIdx) : Nat × Nat := tierValues[i.toNat]'i.isLt

/-- `TIER_CODE[i]`. -/
def tierCode (i : TierIdx) : BitVec 3 := tierCodes[i.toNat]'i.isLt

/-- `zext_8(TIER_CODE[i])`, the byte written to the analog-gain register (R191). -/
def tierByte (i : TierIdx) : Byte := (tierCode i).setWidth 8

/-- `GainSelect(x)` (R192): the first breakpoint at or above `x`, and the 1.0 tier where there is none
(above 40, R193; a NaN, R194). -/
def gainSelect (x : Word32) : TierIdx :=
  BitVec.ofNat 3 ((tierBreakpoints.findIdx? (f32Le x)).getD 0)

/-- The result word of `SETG`: `result[5:3]` the code, `result[2:0]` the index (R82, R200). -/
def gainResult (i : TierIdx) : Word32 := (tierCode i ++ i).setWidth 32

/-- The strict gain check: a NaN or a request above 40.0 (R201). -/
def gainRejected (x : Word32) : Bool := f32IsNaN x || f32Gt x 0x42200000

/-! ### Integration period (R74, R210, R212) -/

/-- `PeriodByte(ms) = (ms - 1) mod 256` on mathematical integers (R210). -/
def periodByte (ms : Word32) : Byte := BitVec.ofInt 8 (ms.toInt - 1)

/-- The strict period check: `not (1 <= ms <= 256)` (R212). -/
def periodRejected (ms : Word32) : Bool := !decide (1 ≤ ms.toInt ∧ ms.toInt ≤ 256)

/-! ### Results (R58, R82, R150, R160) -/

/-- `b0 * 256 + b1` (R58). -/
def rawOfBytes (b0 b1 : Byte) : BitVec 16 := b0 ++ b1

/-- `LuxRef(raw, i, T)`, defined for `T >= 1` (R160): `32*raw / (TIER_VALUE[i]*T)`, rounded once. -/
def luxRef (raw : BitVec 16) (i : TierIdx) (t : Word32) : Word32 :=
  rne32 (32 * raw.toNat * (tierValue i).2) ((tierValue i).1 * t.toInt.toNat)

/-- `P_LUX_FN` (R160). -/
def luxValue (p : Params) (raw : BitVec 16) (i : TierIdx) (t : Word32) : Word32 :=
  match p.luxFn with
  | .luxRef => luxRef raw i t
  | .other => Config.otherLuxFn raw i t

end Sys2Proof.Machine
end

