-- ==== Sys2Proof/Machine/Flags.lean ====
section
/-! DEFINITION. The conditions a step tests. The SRS has no stored flags: readiness is a pure function of
one status byte, evaluated in the `POLL` step (10_state.md R32; 41_measurement.md R146 to R148, R161). -/

namespace Sys2Proof.Machine

/-- `range_ready(s) = (s[2:0] == 4)` (R147). -/
def rangeReady (s : Byte) : Bool := s.extractLsb' 0 3 == 4#3

/-- `als_ready(s)` under `P_ALS_READY_TEST` (R148): `s[5:3] == 4`, or `s[5] == 1`. -/
def alsReady (test : AlsReadyTest) (s : Byte) : Bool :=
  match test with
  | .fieldEq => s.extractLsb' 3 3 == 4#3
  | .bit2 => s.extractLsb' 5 1 == 1#1

/-- `ready(ch, s)` (R144, R145). -/
def channelReady (p : Params) (ch : Channel) (s : Byte) : Bool :=
  match ch with
  | .range => rangeReady s
  | .als => alsReady p.alsReadyTest s

/-- `P_POLL_LIMIT = N and POLL_CNT = N`, of the count after its increment (R145, R146). -/
def pollLimitReached (p : Params) (count : Nat) : Bool := decide (p.pollLimit = some count)

/-- `CFG_IPERIOD <= 0` (R161). -/
def luxOutOfDomain (period : Word32) : Bool := decide (period.toInt ≤ 0)

end Sys2Proof.Machine
end

