-- ==== Sys2Proof/Machine/Ops.lean ====
section
/-! DEFINITION. The operations every meaning is built from: the bus port, the command latches, the
response, the error end of a command (the SRS's one form of exception, 60_exceptions.md R233), and the
reset. -/

namespace Sys2Proof.Machine

/-- The outcome of a step. -/
abbrev Out := Host.Outcome State Fault Refusal

/-! ### Registers -/

/-- `SEQ_STATE <- q` (R13, R29). -/
def State.goto (q : SeqState) (s : State) : State := { s with seqState := q }

/-- `CFG_MODE <- m` (R102). -/
def State.setCfgMode (m : Mode) (s : State) : State := { s with cfgMode := m.code }

/-- `CFG_GAIN_IDX <- i` (R200). -/
def State.setCfgGainIdx (i : TierIdx) (s : State) : State := { s with cfgGainIdx := i }

/-- `CFG_IPERIOD <- ms` (R211). -/
def State.setCfgIPeriod (ms : Word32) (s : State) : State := { s with cfgIPeriod := ms }

/-- `LAT_TIER <- i` (R200). -/
def State.setLatTier (i : TierIdx) (s : State) : State := { s with latTier := i }

/-- `POLL_CNT <- n` (R143, R145). -/
def State.setPollCnt (n : Nat) (s : State) : State := { s with pollCnt := n }

/-- `LAT_OP <- op; LAT_MODE <- mode; LAT_OPND <- opnd`, the latches of the accept step (R80). -/
def State.latch (i : Instr) (s : State) : State :=
  { s with latOp := i.op, latMode := i.modeBits, latOpnd := i.opnd }

/-- The trace with one more event (R14). -/
def State.emit (e : Event) (s : State) : State := { s with trace := s.trace ++ [e] }

/-! ### Response and the end of a command -/

/-- The status codes (R230). -/
def Status.code : Status → BitVec 8
  | .ok => 0
  | .transportFailure => 1
  | .invalidParameter => 2
  | .timeout => 3
  | .illegalCommand => 4
  | .unimplemented => 5
  | .luxDomain => 6

/-- `Respond(status, result)`: the response registers are written, the response is delivered, and the
sequencer returns to `IDLE` (R13, R31). -/
def State.respond (st : Status) (result : Word32) (s : State) : State :=
  { s with
    rspStatus := st.code
    rspResult := result
    seqState := .idle
    trace := s.trace ++ [.resp st.code result] }

/-- `Respond(OK, result)`. -/
def State.respondOk (result : Word32) (s : State) : State := s.respond .ok result

/-- The error end of a command, for every error status: `Respond(status, 0)` and `SEQ_STATE <- IDLE`, with
no vector, saved state or mode change (R232, R233). There is no return from it: the next command may be
accepted at once (R239). -/
def State.raise (st : Status) (s : State) : State := s.respond st 0

/-! ### The bus port (R13, R50 to R53) -/

/-- The oracle's answer to the next transaction: the one that stands in State, else a free value. -/
def State.nextDraw (s : State) : BusDraw :=
  match s.busAnswers with
  | d :: _ => d
  | [] => Config.freeDraw s.drawCount

/-- The oracle after one more answer is consumed. -/
def State.consumeDraw (s : State) : State :=
  { s with busAnswers := s.busAnswers.tail, drawCount := s.drawCount + 1 }

/-- The answer of a read of `n` bytes, `n` at most 2 (R52). -/
def busReadAnswer (d : BusDraw) (n : Nat) : Option (List Byte) :=
  if d.ack then some ([d.b0, d.b1].take n) else none

/-- `MemWrite(reg, 1, b)`: the transaction issued and answered, carrying `CFG_DEVADDR` (R13, R51). -/
def State.memWrite (reg : RegAddr) (b : Byte) (s : State) : State :=
  s.consumeDraw.emit (.busW s.cfgDevAddr reg b s.nextDraw.ack)

/-- `MemRead(reg, n)`: the transaction issued and answered (R13, R51). -/
def State.memRead (reg : RegAddr) (n : Nat) (s : State) : State :=
  s.consumeDraw.emit (.busR s.cfgDevAddr reg n (busReadAnswer s.nextDraw n))

/-- A step that writes one byte: `done` where the answer is `ok`, and where it is `fail`
`raise TransportFailure()`, with no other effect of the step (R236). -/
def writeStep (reg : RegAddr) (b : Byte) (done : State → State) (s : State) : Out :=
  if s.nextDraw.ack then .next (done (s.memWrite reg b))
  else .next ((s.memWrite reg b).raise .transportFailure)

/-- A step that reads one byte, `a[0]` given to `done`; `fail` as `writeStep` (R236). -/
def readByteStep (reg : RegAddr) (done : Byte → State → State) (s : State) : Out :=
  if s.nextDraw.ack then .next (done s.nextDraw.b0 (s.memRead reg 1))
  else .next ((s.memRead reg 1).raise .transportFailure)

/-- A step that reads two bytes, `a[0]` and `a[1]` given to `done`; `fail` as `writeStep` (R236). -/
def readPairStep (reg : RegAddr) (done : Byte → Byte → State → State) (s : State) : Out :=
  if s.nextDraw.ack then .next (done s.nextDraw.b0 s.nextDraw.b1 (s.memRead reg 2))
  else .next ((s.memRead reg 2).raise .transportFailure)

/-! ### The clear sequence (R101), shared by `CLRM`, `SETM`, `RDRS` and `RDAS` -/

/-- `CLR0`: `A_RANGE_START <- 0x00`. -/
def clr0Step (s : State) : Out := writeStep regRangeStart clearCode (State.goto .clr1) s

/-- `CLR1`: `A_ALS_START <- 0x00`. -/
def clr1Step (s : State) : Out := writeStep regAlsStart clearCode (State.goto .clr2) s

/-- `CLR2`: `A_INTERLEAVED <- 0x00`, then what the command does once its three writes answered `ok`. -/
def clr2Step (done : State → State) (s : State) : Out := writeStep regInterleaved clearCode done s

/-! ### Reset (R270 to R272) -/

/-- Reset asserted: every register of R34 takes its reset value; no event is recorded and no transaction
is issued; what the agents hold, the parameters and the events so far stay. -/
def State.assertReset (s : State) : State :=
  { State.reset with
    params := s.params
    trace := s.trace
    hostCmds := s.hostCmds
    resetIn := s.resetIn
    busAnswers := s.busAnswers
    drawCount := s.drawCount }

/-! ### What the host sees -/

/-- The port's ready output (R246). -/
def State.ready (s : State) : Bool := decide (s.seqState = .idle)

/-- The read-only configuration output (R26, R247): `CFG_MODE`, `CFG_GAIN_IDX`, `CFG_IPERIOD`,
`CFG_DEVADDR`. Reading it changes nothing. -/
def State.configOut (s : State) : BitVec 3 × TierIdx × Word32 × DevAddr :=
  (s.cfgMode, s.cfgGainIdx, s.cfgIPeriod, s.cfgDevAddr)

end Sys2Proof.Machine
end

