-- ==== Sys2Proof/Machine/Measurement.lean ====
section
/-! DEFINITION. The Measurement Protocol commands `RDRS` and `RDAS`, and the refused `RDRC` and `RDAC`
(41_measurement.md). -/

namespace Sys2Proof.Machine

/-- `TRIG` (R143). -/
def trigStep (ch : Channel) (s : State) : Out :=
  writeStep ch.startReg startCode (fun t => (t.setPollCnt 0).goto .poll) s

/-- What one answered status read does (R145, R146). -/
def afterStatus (ch : Channel) (status : Byte) (s : State) : State :=
  if channelReady s.params ch status then s.goto .res
  else if pollLimitReached s.params (s.pollCnt + 1) then (s.setPollCnt (s.pollCnt + 1)).raise .timeout
  else (s.setPollCnt (s.pollCnt + 1)).goto .poll

/-- `POLL`, one status read (R145). -/
def pollStep (ch : Channel) (s : State) : Out := readByteStep regIntStatus (afterStatus ch) s

/-- `RES` of `RDRS`: the result byte unmodified, in millimetres (R150). -/
def rangeResultStep (s : State) : Out :=
  readByteStep regRangeResult (fun mm t => t.respondOk (mm.setWidth 32)) s

/-- What the answered ALS result read does: `LUX_DOMAIN` for a stored period at or below 0, else the lux
value (R151, R161). -/
def afterAlsResult (b0 b1 : Byte) (s : State) : State :=
  if luxOutOfDomain s.cfgIPeriod then s.raise .luxDomain
  else s.respondOk (luxValue s.params (rawOfBytes b0 b1) s.cfgGainIdx s.cfgIPeriod)

/-- `RES` of `RDAS` (R151). -/
def alsResultStep (s : State) : Out := readPairStep regAlsResult afterAlsResult s

/-- The steps both single-shot reads share: the mode update and the clear sequence of their step-1
`setMode` (R141, R142), trigger (R143), poll (R145), result. -/
def measureStep (i : Instr) (m : Mode) (ch : Channel) (resultStep : State → Out) (s : State) : Out :=
  match s.seqState with
  | .idle => .next (((s.latch i).setCfgMode m).goto .clr0)
  | .clr0 => clr0Step s
  | .clr1 => clr1Step s
  | .clr2 => clr2Step (State.goto .trig) s
  | .mwr => .fault .noTransition
  | .trig => trigStep ch s
  | .poll => pollStep ch s
  | .res => resultStep s
  | .gwr => .fault .noTransition
  | .pwr => .fault .noTransition

/-- `RDRS` (R140). -/
def execRdrangeSs (s : State) : Out :=
  measureStep .rdrangeSs .rangeSingleShot .range rangeResultStep s

/-- `RDAS` (R155). -/
def execRdalsSs (s : State) : Out := measureStep .rdalsSs .alsSingleShot .als alsResultStep s

/-- A command that ends at its accept step with `UNIMPLEMENTED`: only the latches are written, and no
transaction is issued (R170, R171). -/
def unimplementedStep (i : Instr) (s : State) : Out :=
  match s.seqState with
  | .idle => .next ((s.latch i).raise .unimplemented)
  | .clr0 => .fault .noTransition
  | .clr1 => .fault .noTransition
  | .clr2 => .fault .noTransition
  | .mwr => .fault .noTransition
  | .trig => .fault .noTransition
  | .poll => .fault .noTransition
  | .res => .fault .noTransition
  | .gwr => .fault .noTransition
  | .pwr => .fault .noTransition

/-- `RDRC` (R170). -/
def execRdrangeCont (s : State) : Out := unimplementedStep .rdrangeCont s

/-- `RDAC` (R171). -/
def execRdalsCont (s : State) : Out := unimplementedStep .rdalsCont s

end Sys2Proof.Machine
end

