-- ==== Sys2Proof/Machine/ModeController.lean ====
section
/-! DEFINITION. The Mode Controller commands `CLRM` and `SETM` (40_mode_controller.md). A meaning is the
command's rows of R30: its accept step in `IDLE`, and one step for each later control state. -/

namespace Sys2Proof.Machine

/-- The register write that ends a `SETM`, where its mode has one (R103). -/
abbrev Terminal := Option (RegAddr × Byte)

/-- After `CLR2` answered `ok`: the terminal write next, or the response where there is none (R30). -/
def afterClear : Terminal → State → State
  | none => State.respondOk 0
  | some _ => State.goto .mwr

/-- The `MWR` step; a mode without a terminal action has none (R103, R120, R121). -/
def terminalStep (t : Terminal) (s : State) : Out :=
  match t with
  | some (reg, b) => writeStep reg b (State.respondOk 0) s
  | none => .fault .noTransition

/-- The steps every `SETM` shares: `CFG_MODE` at accept, before any transaction (R102), the clear sequence
(R101), then at most one terminal write (R103). -/
def setModeStep (i : Instr) (m : Mode) (t : Terminal) (s : State) : Out :=
  match s.seqState with
  | .idle => .next (((s.latch i).setCfgMode m).goto .clr0)
  | .clr0 => clr0Step s
  | .clr1 => clr1Step s
  | .clr2 => clr2Step (afterClear t) s
  | .mwr => terminalStep t s
  | .trig => .fault .noTransition
  | .poll => .fault .noTransition
  | .res => .fault .noTransition
  | .gwr => .fault .noTransition
  | .pwr => .fault .noTransition

/-- `CLRM` (R110): the clear sequence and no configuration write. -/
def execClrmodes (s : State) : Out :=
  match s.seqState with
  | .idle => .next ((s.latch .clrmodes).goto .clr0)
  | .clr0 => clr0Step s
  | .clr1 => clr1Step s
  | .clr2 => clr2Step (State.respondOk 0) s
  | .mwr => .fault .noTransition
  | .trig => .fault .noTransition
  | .poll => .fault .noTransition
  | .res => .fault .noTransition
  | .gwr => .fault .noTransition
  | .pwr => .fault .noTransition

/-- `SETM rss` (R120): "no further register write". -/
def execSetmodeRss (s : State) : Out := setModeStep .setmodeRss .rangeSingleShot none s

/-- `SETM ass` (R121): "no further register write". -/
def execSetmodeAss (s : State) : Out := setModeStep .setmodeAss .alsSingleShot none s

/-- `SETM acont` (R122): ALS-start `<- 0x03`. -/
def execSetmodeAcont (s : State) : Out :=
  setModeStep .setmodeAcont .alsContinuous (some (regAlsStart, continuousCode)) s

/-- `SETM rcont` (R123): range-start `<- 0x03`. -/
def execSetmodeRcont (s : State) : Out :=
  setModeStep .setmodeRcont .rangeContinuous (some (regRangeStart, continuousCode)) s

/-- `SETM rcont_ass` (R124): range-start `<- 0x03`. -/
def execSetmodeRcontAss (s : State) : Out :=
  setModeStep .setmodeRcontAss .rangeContinuousAlsSingleShot (some (regRangeStart, continuousCode)) s

/-- `SETM rss_acont` (R125): ALS-start `<- 0x03`. -/
def execSetmodeRssAcont (s : State) : Out :=
  setModeStep .setmodeRssAcont .rangeSingleShotAlsContinuous (some (regAlsStart, continuousCode)) s

/-- `SETM ilv` (R126): interleaved-enable `<- 0x01`. -/
def execSetmodeIlv (s : State) : Out :=
  setModeStep .setmodeIlv .interleaved (some (regInterleaved, interleavedCode)) s

end Sys2Proof.Machine
end

