-- ==== Sys2Proof/Machine/Quantizers.lean ====
section
/-! DEFINITION. The quantizer commands `SETG` and `SETP` (42_quantizers.md). -/

namespace Sys2Proof.Machine

/-- The accept step of `SETG` after the latches: the strict check (R201), else the tier chosen by the
selector is latched and `GWR` is next (R200). -/
def acceptGain (s : State) : State :=
  if s.params.strictParams && gainRejected s.latOpnd then s.raise .invalidParameter
  else (s.setLatTier (gainSelect s.latOpnd)).goto .gwr

/-- `GWR` once its write answered `ok` (R200). -/
def storeGain (s : State) : State := (s.setCfgGainIdx s.latTier).respondOk (gainResult s.latTier)

/-- `GWR`: the latched tier's code to the analog-gain register (R200). -/
def gwrStep (s : State) : Out := writeStep s.params.addrAlsGain (tierByte s.latTier) storeGain s

/-- `SETG` (R200). -/
def execSetgain (requested : Word32) (s : State) : Out :=
  match s.seqState with
  | .idle => .next (acceptGain (s.latch (.setgain requested)))
  | .clr0 => .fault .noTransition
  | .clr1 => .fault .noTransition
  | .clr2 => .fault .noTransition
  | .mwr => .fault .noTransition
  | .trig => .fault .noTransition
  | .poll => .fault .noTransition
  | .res => .fault .noTransition
  | .gwr => gwrStep s
  | .pwr => .fault .noTransition

/-- The accept step of `SETP` after the latches: the strict check (R212), else `PWR` is next (R211). -/
def acceptPeriod (s : State) : State :=
  if s.params.strictParams && periodRejected s.latOpnd then s.raise .invalidParameter
  else s.goto .pwr

/-- `PWR` once its write answered `ok`: the requested value is stored, not the byte (R211). -/
def storePeriod (s : State) : State := (s.setCfgIPeriod s.latOpnd).respondOk 0

/-- `PWR`: the encoded period to the integration-period register (R210, R211). -/
def pwrStep (s : State) : Out := writeStep s.params.addrAlsIPeriod (periodByte s.latOpnd) storePeriod s

/-- `SETP` (R211). -/
def execSetperiod (ms : Word32) (s : State) : Out :=
  match s.seqState with
  | .idle => .next (acceptPeriod (s.latch (.setperiod ms)))
  | .clr0 => .fault .noTransition
  | .clr1 => .fault .noTransition
  | .clr2 => .fault .noTransition
  | .mwr => .fault .noTransition
  | .trig => .fault .noTransition
  | .poll => .fault .noTransition
  | .res => .fault .noTransition
  | .gwr => .fault .noTransition
  | .pwr => pwrStep s

end Sys2Proof.Machine
end

