-- ==== Sys2Proof/Machine/Dispatch.lean ====
section
/-! DEFINITION. One arm per command: the command's next micro-step in the state it is given (R30). -/

namespace Sys2Proof.Machine

def exec (i : Instr) (s : State) : Host.Outcome State Fault Refusal :=
  match i with
  | .clrmodes => Sys2Proof.Machine.execClrmodes s
  | .setmodeRss => Sys2Proof.Machine.execSetmodeRss s
  | .setmodeAss => Sys2Proof.Machine.execSetmodeAss s
  | .setmodeAcont => Sys2Proof.Machine.execSetmodeAcont s
  | .setmodeRcont => Sys2Proof.Machine.execSetmodeRcont s
  | .setmodeRcontAss => Sys2Proof.Machine.execSetmodeRcontAss s
  | .setmodeRssAcont => Sys2Proof.Machine.execSetmodeRssAcont s
  | .setmodeIlv => Sys2Proof.Machine.execSetmodeIlv s
  | .rdrangeSs => Sys2Proof.Machine.execRdrangeSs s
  | .rdalsSs => Sys2Proof.Machine.execRdalsSs s
  | .setgain requested => Sys2Proof.Machine.execSetgain requested s
  | .setperiod ms => Sys2Proof.Machine.execSetperiod ms s
  | .rdrangeCont => Sys2Proof.Machine.execRdrangeCont s
  | .rdalsCont => Sys2Proof.Machine.execRdalsCont s

end Sys2Proof.Machine
end

