-- ==== Sys2Proof/Machine/Sequencer.lean ====
section
/-! DEFINITION. What a step does around a command's meaning: the command port (60_exceptions.md R246,
30_encoding.md R80, R81), the command in progress, read from its latches (10_state.md R27, R29), and the
reset input (70_reset_and_hazards.md R270, R271). -/

namespace Sys2Proof.Machine

/-- The reset input at this step. -/
def State.resetAsserted (s : State) : Bool := s.resetIn.headD false

/-- The reset input moves on to the next step. -/
def State.resetTick (s : State) : State := { s with resetIn := s.resetIn.tail }

/-- The command port takes the word `w`, leaving `rest`: `Accept(w)` is recorded (R80). -/
def State.takeCommand (w : CmdWord) (rest : List CmdWord) (s : State) : State :=
  ({ s with hostCmds := rest }).emit (.accept w)

/-- The command in progress: the latches, written at accept, hold its opcode, mode and operand (R27). -/
def State.latchedWord (s : State) : CmdWord := packWord s.latOpnd 0 s.latMode s.latOp

/-- The accept step (R80): an illegal word ends here, with no latch, configuration register or
`POLL_CNT` written (R81); a legal one runs its command's accept step. -/
def acceptStep (w : CmdWord) (s : State) : Out :=
  match decode w with
  | .error _ => .next (s.raise .illegalCommand)
  | .ok i => exec i s

/-- One step without reset. In `IDLE` the next word of the host is accepted, and without one the
sequencer waits (R272); in every other control state the command in progress takes its next step. -/
def sequencerStep (s : State) : Out :=
  match s.seqState with
  | .idle =>
    match s.hostCmds with
    | [] => .next s
    | w :: rest => acceptStep w (s.takeCommand w rest)
  | _ =>
    match decode s.latchedWord with
    | .error _ => .fault .noTransition
    | .ok i => exec i s

/-- The state whose next step accepts `w`: `w` before the host's other words, the sequencer in `IDLE`, and
reset not asserted at that step. -/
def State.submitNext (w : CmdWord) (s : State) : State :=
  { s with
    hostCmds := w :: s.hostCmds
    seqState := .idle
    resetIn := if s.resetAsserted then false :: s.resetIn.tail else s.resetIn }

end Sys2Proof.Machine
end

