-- ==== Sys2Proof/Machine/Step.lean ====
section
/-! DEFINITION. One step of the machine, and the state whose next step runs a given word. -/

namespace Sys2Proof.Machine

/-- One step (R10): the reset input first (R270), then the sequencer. -/
def step (s : State) : Host.Outcome State Fault Refusal :=
  if s.resetAsserted then .next s.resetTick.assertReset
  else sequencerStep s.resetTick

/-- The state whose very next step accepts this table word: the word is the host's next submission, the
sequencer is in `IDLE`, where alone a word is accepted, and reset is not asserted at that step
(R246; log entry 6). -/
def State.withFetchWord (s : State) (nbits w : Nat) : State := s.submitNext (tableWord nbits w)

end Sys2Proof.Machine
end

