-- ==== Sys2Proof/Machine/Assembler.lean ====
section
/-! DEFINITION. The assembly syntax of a command (30_encoding.md R72, R75, R83): one command a line, read
as a list of characters, and a printer of every command in that syntax. -/

namespace Sys2Proof.Machine

/-! ### Lines and numerals -/

/-- The words of a line: a `;` starts a comment (R83). Blanks and tabs separate words: DESIGN CHOICE, log entry
12. -/
def lineWords (line : List Char) : List (List Char) :=
  let step := fun (c : Char) (acc : List (List Char)) =>
    if c = ' ' ∨ c = '\t' then [] :: acc
    else match acc with
      | [] => [[c]]
      | w :: ws => (c :: w) :: ws
  ((line.takeWhile (fun c => decide (c ≠ ';'))).foldr step [[]]).filter (fun w => !w.isEmpty)

/-- The value of a decimal digit. -/
def digitValue (c : Char) : Option Nat :=
  if 48 ≤ c.toNat ∧ c.toNat ≤ 57 then some (c.toNat - 48) else none

/-- The value of a hexadecimal digit, in either case: DESIGN CHOICE, log entry 12. -/
def hexValue (c : Char) : Option Nat :=
  if 48 ≤ c.toNat ∧ c.toNat ≤ 57 then some (c.toNat - 48)
  else if 65 ≤ c.toNat ∧ c.toNat ≤ 70 then some (c.toNat - 55)
  else if 97 ≤ c.toNat ∧ c.toNat ≤ 102 then some (c.toNat - 87)
  else none

/-- A numeral read digit by digit, most significant first, after the value `acc`. -/
def readDigits (digit : Char → Option Nat) (base : Nat) : Nat → List Char → Option Nat
  | acc, [] => some acc
  | acc, c :: cs => (digit c).bind (fun d => readDigits digit base (acc * base + d) cs)

/-- A decimal natural number of at least one digit. -/
def readDecimal (cs : List Char) : Option Nat := if cs = [] then none else readDigits digitValue 10 0 cs

/-- `0xHHHHHHHH`: exactly eight hexadecimal digits, giving 32 bits (R83). -/
def readHex32 : List Char → Option Word32
  | '0' :: 'x' :: cs =>
    if cs.length = 8 then (readDigits hexValue 16 0 cs).map (BitVec.ofNat 32) else none
  | _ => none

/-- A leading minus sign, and what follows it. A leading plus is no sign, so a numeral with one is refused:
DESIGN CHOICE, log entry 12. -/
def splitSign : List Char → Bool × List Char
  | '-' :: cs => (true, cs)
  | cs => (false, cs)

/-- An exponent's digits, at least one, with their sign; a minus or a plus may stand before them: DESIGN
CHOICE, log entry 12. -/
def readExponent : List Char → Option Int
  | '-' :: cs => (readDecimal cs).map (fun n => -(n : Int))
  | '+' :: cs => (readDecimal cs).map (fun n => (n : Int))
  | cs => (readDecimal cs).map (fun n => (n : Int))

/-- The magnitude `n / d` of a decimal literal that contains a `.` or an exponent (R83). The letter `e` or `E`
introduces an exponent, and the significand has at least one digit, on either side of the point: DESIGN
CHOICE, log entry 12. -/
def readMagnitude (cs : List Char) : Option (Nat × Nat) :=
  let isExp := fun (c : Char) => decide (c = 'e' ∨ c = 'E')
  let significand := cs.takeWhile (fun c => !isExp c)
  let afterSig := cs.drop significand.length
  let whole := significand.takeWhile (fun c => decide (c ≠ '.'))
  let frac := (significand.drop whole.length).drop 1
  if '.' ∉ significand ∧ afterSig = [] then none
  else match readDecimal (whole ++ frac), (if afterSig = [] then some 0 else readExponent (afterSig.drop 1)) with
    | some n, some e =>
      let k := e - frac.length
      if 0 ≤ k then some (n * 10 ^ k.toNat, 1) else some (n, 10 ^ (-k).toNat)
    | _, _ => none

/-! ### Operands (R83) -/

/-- The sign bit of a binary32 value; `-0.0` has it set (95_test_vectors.md table G). On a literal other than
zero whose magnitude rounds to 0 it is set too: DESIGN CHOICE, log entry 12. -/
def f32Sign (neg : Bool) : Word32 := if neg then 0x80000000 else 0

/-- The operand of `setgain`. -/
def readGain (cs : List Char) : Option Word32 :=
  if cs = ['i', 'n', 'f'] then some 0x7F800000
  else if cs = ['-', 'i', 'n', 'f'] then some 0xFF800000
  else if cs = ['n', 'a', 'n'] then some 0x7FC00000
  else match cs with
    | 'b' :: 'i' :: 't' :: 's' :: '(' :: rest =>
      if rest.getLast? = some ')' then readHex32 rest.dropLast else none
    | _ => (readMagnitude (splitSign cs).2).map (fun q => f32Sign (splitSign cs).1 ||| rne32 q.1 q.2)

/-- The operand of `setperiod`: 32 bits, or a decimal integer from `-2^31` to `2^31 - 1`. -/
def readPeriod (cs : List Char) : Option Word32 :=
  match readHex32 cs with
  | some w => some w
  | none =>
    (readDecimal (splitSign cs).2).bind (fun n =>
      let v : Int := if (splitSign cs).1 then -(n : Int) else (n : Int)
      if -(2 ^ 31) ≤ v ∧ v ≤ 2 ^ 31 - 1 then some (BitVec.ofInt 32 v) else none)

/-- The mode keywords (R75). -/
def modeKeyword : List Char → Option Instr
  | ['r', 's', 's'] => some .setmodeRss
  | ['a', 's', 's'] => some .setmodeAss
  | ['a', 'c', 'o', 'n', 't'] => some .setmodeAcont
  | ['r', 'c', 'o', 'n', 't'] => some .setmodeRcont
  | ['r', 'c', 'o', 'n', 't', '_', 'a', 's', 's'] => some .setmodeRcontAss
  | ['r', 's', 's', '_', 'a', 'c', 'o', 'n', 't'] => some .setmodeRssAcont
  | ['i', 'l', 'v'] => some .setmodeIlv
  | _ => none

/-! ### One line (R83) -/

/-- The mnemonics of R72. -/
def kwClrmodes : List Char := ['c', 'l', 'r', 'm', 'o', 'd', 'e', 's']
/-- `setmode`. -/
def kwSetmode : List Char := ['s', 'e', 't', 'm', 'o', 'd', 'e']
/-- `rdrange.ss`. -/
def kwRdrangeSs : List Char := ['r', 'd', 'r', 'a', 'n', 'g', 'e', '.', 's', 's']
/-- `rdals.ss`. -/
def kwRdalsSs : List Char := ['r', 'd', 'a', 'l', 's', '.', 's', 's']
/-- `setgain`. -/
def kwSetgain : List Char := ['s', 'e', 't', 'g', 'a', 'i', 'n']
/-- `setperiod`. -/
def kwSetperiod : List Char := ['s', 'e', 't', 'p', 'e', 'r', 'i', 'o', 'd']
/-- `rdrange.cont`. -/
def kwRdrangeCont : List Char := ['r', 'd', 'r', 'a', 'n', 'g', 'e', '.', 'c', 'o', 'n', 't']
/-- `rdals.cont`. -/
def kwRdalsCont : List Char := ['r', 'd', 'a', 'l', 's', '.', 'c', 'o', 'n', 't']

/-- The command of a line's words. -/
def assembleWords : List (List Char) → Option Instr
  | [m] =>
    if m = kwClrmodes then some .clrmodes
    else if m = kwRdrangeSs then some .rdrangeSs
    else if m = kwRdalsSs then some .rdalsSs
    else if m = kwRdrangeCont then some .rdrangeCont
    else if m = kwRdalsCont then some .rdalsCont
    else none
  | [m, x] =>
    if m = kwSetmode then modeKeyword x
    else if m = kwSetgain then (readGain x).map .setgain
    else if m = kwSetperiod then (readPeriod x).map .setperiod
    else none
  | _ => none

/-- The command of a line, `none` where the line spells none. -/
def assembleLine (line : List Char) : Option Instr := assembleWords (lineWords line)

/-! ### Printing -/

/-- An upper-case hexadecimal digit. -/
def hexDigit (n : Nat) : Char := if n < 10 then Char.ofNat (48 + n) else Char.ofNat (55 + n)

/-- `0xHHHHHHHH`. -/
def printHex32 (w : Word32) : List Char :=
  '0' :: 'x' :: [28, 24, 20, 16, 12, 8, 4, 0].map (fun k => hexDigit (w.toNat / 2 ^ k % 16))

/-- A command in the syntax of R83; operands as their 32 bits. -/
def printLine : Instr → List Char
  | .clrmodes => kwClrmodes
  | .setmodeRss => kwSetmode ++ [' ', 'r', 's', 's']
  | .setmodeAss => kwSetmode ++ [' ', 'a', 's', 's']
  | .setmodeAcont => kwSetmode ++ [' ', 'a', 'c', 'o', 'n', 't']
  | .setmodeRcont => kwSetmode ++ [' ', 'r', 'c', 'o', 'n', 't']
  | .setmodeRcontAss => kwSetmode ++ [' ', 'r', 'c', 'o', 'n', 't', '_', 'a', 's', 's']
  | .setmodeRssAcont => kwSetmode ++ [' ', 'r', 's', 's', '_', 'a', 'c', 'o', 'n', 't']
  | .setmodeIlv => kwSetmode ++ [' ', 'i', 'l', 'v']
  | .rdrangeSs => kwRdrangeSs
  | .rdalsSs => kwRdalsSs
  | .setgain requested =>
    kwSetgain ++ [' ', 'b', 'i', 't', 's', '('] ++ printHex32 requested ++ [')']
  | .setperiod ms => kwSetperiod ++ [' '] ++ printHex32 ms
  | .rdrangeCont => kwRdrangeCont
  | .rdalsCont => kwRdalsCont

end Sys2Proof.Machine
end

