-- ==== Sys2Proof/Safety.lean ====
section
/-! DEFINITION. The terms claims are stated in: which transaction each control state issues (10_state.md
R30), the events the spec allows (20_memory.md R51, R56, R60; 60_exceptions.md R230, R232), the
invariant of the reachable states, and a run that never stops. Written from the spec's tables, beside
the meanings and not over them: register addresses and codes stand here as numbers. -/

namespace Sys2Proof

/-- The control states in which a command in progress can stand (R30). -/
def Instr.standsIn (i : Instr) (q : Machine.SeqState) : Bool :=
  match i with
  | .clrmodes => q == .clr0 || q == .clr1 || q == .clr2
  | .setmodeRss => q == .clr0 || q == .clr1 || q == .clr2
  | .setmodeAss => q == .clr0 || q == .clr1 || q == .clr2
  | .setmodeAcont => q == .clr0 || q == .clr1 || q == .clr2 || q == .mwr
  | .setmodeRcont => q == .clr0 || q == .clr1 || q == .clr2 || q == .mwr
  | .setmodeRcontAss => q == .clr0 || q == .clr1 || q == .clr2 || q == .mwr
  | .setmodeRssAcont => q == .clr0 || q == .clr1 || q == .clr2 || q == .mwr
  | .setmodeIlv => q == .clr0 || q == .clr1 || q == .clr2 || q == .mwr
  | .rdrangeSs => q == .clr0 || q == .clr1 || q == .clr2 || q == .trig || q == .poll || q == .res
  | .rdalsSs => q == .clr0 || q == .clr1 || q == .clr2 || q == .trig || q == .poll || q == .res
  | .setgain _ => q == .gwr
  | .setperiod _ => q == .pwr
  | .rdrangeCont => false
  | .rdalsCont => false

/-- The mode number a command's accept step writes to `CFG_MODE`, where it writes one (R102, R110, R141,
R142). -/
def Instr.requestedMode : Instr → Option (BitVec 3)
  | .clrmodes => none
  | .setmodeRss => some 0
  | .setmodeAss => some 1
  | .setmodeAcont => some 2
  | .setmodeRcont => some 3
  | .setmodeRcontAss => some 4
  | .setmodeRssAcont => some 5
  | .setmodeIlv => some 6
  | .rdrangeSs => some 0
  | .rdalsSs => some 1
  | .setgain _ => none
  | .setperiod _ => none
  | .rdrangeCont => none
  | .rdalsCont => none

/-- The terminal write of a `SETM`, register and byte (R120 to R126). -/
def Instr.terminalWrite : Instr → Option (RegAddr × Byte)
  | .clrmodes => none
  | .setmodeRss => none
  | .setmodeAss => none
  | .setmodeAcont => some (0x0038, 0x03)
  | .setmodeRcont => some (0x0018, 0x03)
  | .setmodeRcontAss => some (0x0018, 0x03)
  | .setmodeRssAcont => some (0x0038, 0x03)
  | .setmodeIlv => some (0x02A3, 0x01)
  | .rdrangeSs => none
  | .rdalsSs => none
  | .setgain _ => none
  | .setperiod _ => none
  | .rdrangeCont => none
  | .rdalsCont => none

namespace Machine

/-- One bus transaction (R50): a write of one byte, or a read of `n` bytes. -/
inductive Transaction where
  | write (reg : RegAddr) (b : Byte)
  | read (reg : RegAddr) (n : Nat)
deriving DecidableEq, Repr

/-- The transaction of the step the command `i` takes in the state `s` (R30, R56). -/
def dueTransaction (i : Instr) (s : State) : Option Transaction :=
  match s.seqState with
  | .idle => none
  | .clr0 => some (.write 0x0018 0x00)
  | .clr1 => some (.write 0x0038 0x00)
  | .clr2 => some (.write 0x02A3 0x00)
  | .mwr => i.terminalWrite.map (fun t => .write t.1 t.2)
  | .trig => some (.write (if i = .rdalsSs then 0x0038 else 0x0018) 0x01)
  | .poll => some (.read 0x004F 1)
  | .res => some (if i = .rdalsSs then .read 0x0050 2 else .read 0x0062 1)
  | .gwr => some (.write s.params.addrAlsGain (tierByte s.latTier))
  | .pwr => some (.write s.params.addrAlsIPeriod (periodByte s.latOpnd))

/-- The event of a transaction with its answer (R14, R52, R53). -/
def Transaction.event (x : Transaction) (dev : DevAddr) (d : BusDraw) : Event :=
  match x with
  | .write reg b => .busW dev reg b d.ack
  | .read reg n => .busR dev reg n (if d.ack then some ([d.b0, d.b1].take n) else none)

/-- The state after one more answered transaction and `evs`, nothing else changed. -/
def State.afterBus (s : State) (evs : List Event) : State :=
  { s with trace := s.trace ++ evs, busAnswers := s.busAnswers.tail, drawCount := s.drawCount + 1 }

/-! ### Events -/

/-- `Accept`. -/
def Event.isAccept : Event → Bool
  | .accept _ => true
  | .busW _ _ _ _ => false
  | .busR _ _ _ _ => false
  | .resp _ _ => false

/-- `BusW` or `BusR`. -/
def Event.isBus : Event → Bool
  | .accept _ => false
  | .busW _ _ _ _ => true
  | .busR _ _ _ _ => true
  | .resp _ _ => false

/-- `Resp`. -/
def Event.isResp : Event → Bool
  | .accept _ => false
  | .busW _ _ _ _ => false
  | .busR _ _ _ _ => false
  | .resp _ _ => true

/-- What the spec allows an event to be: a write to a register of R56's table with a value of its row, a
read of its row's width, both at the device `0x29` (R51, R60), and a response with one of the codes of
R230, its result 0 where the code is not `OK` (R232). -/
def Event.Allowed (p : Params) : Event → Prop
  | .accept _ => True
  | .busW dev reg b _ =>
    dev = 0x29 ∧
      ((reg = 0x0018 ∧ (b = 0x00 ∨ b = 0x01 ∨ b = 0x03)) ∨
       (reg = 0x0038 ∧ (b = 0x00 ∨ b = 0x01 ∨ b = 0x03)) ∨
       (reg = 0x02A3 ∧ (b = 0x00 ∨ b = 0x01)) ∨
       (reg = p.addrAlsGain ∧ b.toNat ≤ 7) ∨
       reg = p.addrAlsIPeriod)
  | .busR dev reg n answer =>
    dev = 0x29 ∧ ((reg = 0x004F ∧ n = 1) ∨ (reg = 0x0062 ∧ n = 1) ∨ (reg = 0x0050 ∧ n = 2)) ∧
      ∀ bs, answer = some bs → bs.length = n
  | .resp status result => status.toNat ≤ 6 ∧ (status ≠ 0 → result = 0)

/-- The byte last written to a register by a write that answered `ok` (R127). -/
def lastWritten (reg : RegAddr) (evs : List Event) : Option Byte :=
  evs.foldl
    (fun acc e => match e with
      | .busW _ r b true => if r = reg then some b else acc
      | _ => acc)
    none

/-- Each accepted command has been answered, but for the one in progress (R246). -/
def State.Balanced (s : State) : Prop :=
  s.trace.countP Event.isAccept =
    s.trace.countP Event.isResp + (if s.seqState = .idle then 0 else 1)

/-! ### Tables claims are stated over -/

/-- The seven `SETM` commands with their mode number and their terminal write (R75, R120 to R126). -/
def setModeTable : List (Instr × BitVec 3 × Option (RegAddr × Byte)) :=
  [(.setmodeRss, 0, none), (.setmodeAss, 1, none), (.setmodeAcont, 2, some (0x0038, 0x03)),
   (.setmodeRcont, 3, some (0x0018, 0x03)), (.setmodeRcontAss, 4, some (0x0018, 0x03)),
   (.setmodeRssAcont, 5, some (0x0038, 0x03)), (.setmodeIlv, 6, some (0x02A3, 0x01))]

/-- The ALS readiness of a status byte as a number, under each reading of R148. -/
def AlsFieldReady (test : AlsReadyTest) (status : Nat) : Prop :=
  (test = .fieldEq ∧ status / 8 % 8 = 4) ∨ (test = .bit2 ∧ status / 32 % 2 = 1)

/-- The tier values of R160 as exact fractions. -/
def tierFraction (i : TierIdx) : Nat × Nat :=
  [(1, 1), (5, 4), (167, 100), (5, 2), (5, 1), (10, 1), (20, 1), (40, 1)].getD i.toNat (1, 1)

/-! ### The invariant -/

/-- What holds of every state a run reaches. -/
structure State.Inv (s : State) : Prop where
  /-- `CFG_DEVADDR` is hardwired to `0x29` (R22). -/
  device : s.cfgDevAddr = 0x29
  /-- `CFG_MODE` is a legal mode: "the value 7 is never written" (R23). -/
  mode : s.cfgMode ≠ 7
  /-- `P_POLL_LIMIT` is `none` or at least 1 (R11), and the two OPEN addresses are registers of their own
  (R56, R240, R280). -/
  params : s.params.wf = true
  /-- A command is in progress exactly in the control states of R30 that its latches give it, and
  `CFG_MODE` is the mode it requested at accept (R27, R30, R102). -/
  progress : s.seqState ≠ .idle → ∃ i, decode s.latchedWord = .ok i ∧ i.standsIn s.seqState = true ∧
    ∀ m, i.requestedMode = some m → s.cfgMode = m
  /-- In `GWR` the latched tier is the selector's, and a strict check did not reject it (R200, R201). -/
  gain : s.seqState = .gwr → s.latTier = gainSelect s.latOpnd ∧
    (s.params.strictParams = true → gainRejected s.latOpnd = false)
  /-- In `PWR` a strict check did not reject the latched period (R211, R212). -/
  period : s.seqState = .pwr → s.params.strictParams = true → 1 ≤ s.latOpnd.toInt ∧ s.latOpnd.toInt ≤ 256
  /-- Under strict checks `CFG_IPERIOD` lies in 1 to 256 (R213). -/
  strictPeriod : s.params.strictParams = true → 1 ≤ s.cfgIPeriod.toInt ∧ s.cfgIPeriod.toInt ≤ 256
  /-- `POLL_CNT` "never exceeds `N`", and is below it while the poll goes on (R28, R146). -/
  pollCount : ∀ n, s.params.pollLimit = some n →
    s.pollCnt ≤ n ∧ (s.seqState = .poll → s.pollCnt < n)
  /-- The response registers hold a code of R230, and result 0 where it is not `OK` (R232). -/
  response : s.rspStatus.toNat ≤ 6 ∧ (s.rspStatus ≠ 0 → s.rspResult = 0)
  /-- Every event so far is one the spec allows (R51, R56, R60, R230, R232). -/
  events : ∀ e ∈ s.trace, e.Allowed s.params

/-- A run from `s` stops at no step. -/
def State.NeverStops (s : State) : Prop :=
  ∀ n, ∃ t, Host.Core.run core n s = .next t

end Machine

end Sys2Proof
end

