-- ==== Sys2Proof/Certificates/Slice0/Obligations.lean ====
section
/-! DEFINITION. The statements for the provers, from the numbered rules of spec/. Register addresses,
codes and status numbers stand in them as numbers, so that they do not rest on the model's constants. -/

open Sys2Proof Sys2Proof.Machine

/-! ## Encoding -/

/-- Every command, with every operand, is read back from its word (R71 to R75). -/
def Obligations.DecodeReadsBackEveryEncodedCommand : Prop :=
  ∀ i : Instr, decode (encode i) = .ok i

/-- A word that decodes is the word of what it decodes to: no bit of a command word is dropped (R71, R77). -/
def Obligations.EncodeGivesBackEveryDecodedWord : Prop :=
  ∀ (w : CmdWord) (i : Instr), decode w = .ok i → encode i = w

/-- Exactly the words that R76 to R78 do not make illegal spell a command; the fields of R71 are taken by
arithmetic on the word's number. -/
def Obligations.IllegalWordsAreExactlyThoseOfTheRules : Prop :=
  ∀ w : CmdWord,
    (∀ i, decode w ≠ .ok i) ↔
      (w.toNat / 2 ^ 7 % 2 ^ 25 ≠ 0
        ∨ (w.toNat / 2 ^ 4 % 8 ≠ 0 ∧ w.toNat % 16 ≠ 2)
        ∨ (w.toNat / 2 ^ 32 ≠ 0 ∧ w.toNat % 16 ≠ 5 ∧ w.toNat % 16 ≠ 6)
        ∨ w.toNat % 16 = 0 ∨ 9 ≤ w.toNat % 16
        ∨ (w.toNat % 16 = 2 ∧ w.toNat / 2 ^ 4 % 8 = 7))

/-- Words written out from R72 and R75 decode to the command they stand for. -/
def Obligations.WrittenOutWordsDecode : Prop :=
  decode 0x0000000000000001 = .ok .clrmodes ∧
  decode 0x0000000000000012 = .ok .setmodeAss ∧
  decode 0x0000000000000062 = .ok .setmodeIlv ∧
  decode 0x0000000000000003 = .ok .rdrangeSs ∧
  decode 0x4000000000000005 = .ok (.setgain 0x40000000) ∧
  decode 0xFFFFFFFF00000006 = .ok (.setperiod 0xFFFFFFFF) ∧
  decode 0x0000000000000008 = .ok .rdalsCont

/-- A command printed in the syntax of R83 assembles to itself. -/
def Obligations.PrintedCommandsAssembleToThemselves : Prop :=
  ∀ i : Instr, assembleLine (printLine i) = some i

/-! ## The command port and the step -/

/-- In `IDLE`, the step that takes a word of a command runs that command's meaning on the state in which
the word has left the port and `Accept(w)` is recorded (R80; the reset input is log entry 7's). -/
def Obligations.StepRunsTheAcceptedCommand : Prop :=
  ∀ (s : State) (w : CmdWord) (rest : List CmdWord) (i : Instr),
    s.seqState = .idle → s.resetIn.headD false = false → s.hostCmds = w :: rest → decode w = .ok i →
    step s = exec i { s with
      resetIn := s.resetIn.tail, hostCmds := rest, trace := s.trace ++ [.accept w] }

/-- In every other control state, the step runs the command the latches hold (R27, R29). -/
def Obligations.StepRunsTheLatchedCommand : Prop :=
  ∀ (s : State) (i : Instr),
    s.seqState ≠ .idle → s.resetIn.headD false = false →
    decode (packWord s.latOpnd 0 s.latMode s.latOp) = .ok i →
    step s = exec i { s with resetIn := s.resetIn.tail }

/-- "An illegal word ends at its accept step with `Respond(ILLEGAL_COMMAND, 0)`" and nothing else of the
SRS is written (R81). -/
def Obligations.IllegalWordAnswersIllegalCommand : Prop :=
  ∀ (s : State) (w : CmdWord) (rest : List CmdWord),
    s.seqState = .idle → s.resetIn.headD false = false → s.hostCmds = w :: rest →
    (∀ i, decode w ≠ .ok i) →
    step s = .next { s with
      resetIn := s.resetIn.tail, hostCmds := rest, rspStatus := 4, rspResult := 0,
      trace := s.trace ++ [.accept w, .resp 4 0] }

/-- In `IDLE` without a submitted word a step is a next state that changes nothing but the reset input. R272
says that the sequencer waits there and R239 that no step of the SRS runs there: that the wait is such a
next state is the model's choice, log entry 16, and the queue of words is log entry 6's. -/
def Obligations.IdleWithoutACommandWaits : Prop :=
  ∀ s : State, s.seqState = .idle → s.resetIn.headD false = false → s.hostCmds = [] →
    step s = .next { s with resetIn := s.resetIn.tail }

/-- Reset asserted at a step, in any control state: the registers of R34, no event, no transaction and
nothing taken from the host (R270 to R272). The latches are not stated: R27 leaves them unspecified. What
the model's own fields hold after it is the model's choice (log entries 2, 3, 6 and 7). -/
def Obligations.ResetPutsEveryRegisterInItsResetState : Prop :=
  ∀ s : State, s.resetIn.headD false = true →
    ∃ t, step s = .next t ∧
      t.cfgDevAddr = 0x29 ∧ t.cfgMode = 0 ∧ t.cfgGainIdx = 0 ∧ t.cfgIPeriod = 100 ∧
      t.seqState = .idle ∧ t.pollCnt = 0 ∧ t.rspStatus = 0 ∧ t.rspResult = 0 ∧
      t.trace = s.trace ∧ t.params = s.params ∧ t.hostCmds = s.hostCmds ∧
      t.busAnswers = s.busAnswers ∧ t.drawCount = s.drawCount ∧ t.resetIn = s.resetIn.tail

/-- The reset state holds the values of R34 and no event. That it also holds the default parameters of R11 is
the model's choice, log entry 3: the parameters are no state of the SRS (R20). The empty trace is log entry
18's. -/
def Obligations.ResetStateHoldsTheSpecsValues : Prop :=
  State.reset.cfgDevAddr = 0x29 ∧ State.reset.cfgMode = 0 ∧ State.reset.cfgGainIdx = 0 ∧
  State.reset.cfgIPeriod.toInt = 100 ∧ State.reset.seqState = .idle ∧ State.reset.pollCnt = 0 ∧
  State.reset.rspStatus = 0 ∧ State.reset.rspResult = 0 ∧ State.reset.trace = [] ∧
  State.reset.params.pollLimit = none ∧ State.reset.params.strictParams = false ∧
  State.reset.params.alsReadyTest = .fieldEq ∧ State.reset.params.luxFn = .luxRef

/-! ## Every step of every command -/

/-- The accept step of every command completes: the latches hold its opcode, mode and operand fields,
`CFG_MODE` is the requested mode where the command requests one, no transaction is issued, and nothing
else changes but the control state, `LAT_TIER` and the response of a command that ends here (R80, R102,
R110, R141, R142). -/
def Obligations.AcceptStepLatchesTheCommand : Prop :=
  ∀ (i : Instr) (s : State), s.seqState = .idle →
    ∃ t, exec i s = .next t ∧
      t.latOp = opField (encode i) ∧ t.latMode = modeField (encode i) ∧ t.latOpnd = opndField (encode i) ∧
      t.cfgMode = i.requestedMode.getD s.cfgMode ∧
      t.cfgDevAddr = s.cfgDevAddr ∧ t.cfgGainIdx = s.cfgGainIdx ∧ t.cfgIPeriod = s.cfgIPeriod ∧
      t.pollCnt = s.pollCnt ∧ t.params = s.params ∧ t.hostCmds = s.hostCmds ∧ t.resetIn = s.resetIn ∧
      t.busAnswers = s.busAnswers ∧ t.drawCount = s.drawCount ∧
      (((i.standsIn t.seqState = true) ∧ t.trace = s.trace ∧ t.rspStatus = s.rspStatus ∧
          t.rspResult = s.rspResult) ∨
       (t.seqState = .idle ∧ t.trace = s.trace ++ [.resp t.rspStatus 0] ∧ t.rspResult = 0 ∧
          (t.rspStatus = 5 ∨ t.rspStatus = 2)))

/-- In every control state R30 gives a command in progress, its step completes, issues exactly the
transaction of R30's row, and adds at most one response after it (R10, R30, R62); the latches, the device
address, the parameters and the host's side are unchanged (R22, R27). -/
def Obligations.EveryStepIssuesItsOneTransaction : Prop :=
  ∀ (i : Instr) (s : State), i.standsIn s.seqState = true →
    ∃ x t evs, dueTransaction i s = some x ∧ exec i s = .next t ∧
      t.trace = s.trace ++ x.event s.cfgDevAddr s.nextDraw :: evs ∧
      ((evs = [] ∧ i.standsIn t.seqState = true ∧ t.rspStatus = s.rspStatus ∧ t.rspResult = s.rspResult) ∨
       (evs = [.resp t.rspStatus t.rspResult] ∧ t.seqState = .idle)) ∧
      t.busAnswers = s.busAnswers.tail ∧ t.drawCount = s.drawCount + 1 ∧
      t.latOp = s.latOp ∧ t.latMode = s.latMode ∧ t.latOpnd = s.latOpnd ∧ t.latTier = s.latTier ∧
      t.cfgDevAddr = s.cfgDevAddr ∧ t.cfgMode = s.cfgMode ∧ t.params = s.params ∧
      t.hostCmds = s.hostCmds ∧ t.resetIn = s.resetIn

/-- "When a bus transaction of a command answers `fail`, that step performs
`Respond(TRANSPORT_FAILURE, 0)`": the failed transaction and the response are all it does (R236). -/
def Obligations.FailedTransactionEndsTheCommand : Prop :=
  ∀ (i : Instr) (s : State), i.standsIn s.seqState = true → s.nextDraw.ack = false →
    ∃ x, dueTransaction i s = some x ∧
      exec i s = .next { s.afterBus [x.event s.cfgDevAddr s.nextDraw, .resp 1 0] with
        seqState := .idle, rspStatus := 1, rspResult := 0 }

/-- The bytes of a failed read are not used (R236): two oracles that differ only in the bytes that stand
beside a `fail` give the same step of a command in progress. -/
def Obligations.BytesOfAFailedAnswerAreNotUsed : Prop :=
  ∀ (s : State) (d e : BusDraw) (rest : List BusDraw),
    s.seqState ≠ .idle → s.resetIn.headD false = false → d.ack = false → e.ack = false →
    step { s with busAnswers := d :: rest } = step { s with busAnswers := e :: rest }

/-! ## Mode Controller -/

/-- `CLRM`, step by step, each write answered `ok` (R101, R110): three zero writes, `CFG_MODE` kept, then
`Respond(OK, 0)`. -/
def Obligations.ClrmodesSteps : Prop :=
  ∀ s : State,
    (s.seqState = .idle → exec .clrmodes s = .next { s with
      latOp := 1, latMode := 0, latOpnd := 0, seqState := .clr0 }) ∧
    (s.seqState = .clr0 → s.nextDraw.ack = true → exec .clrmodes s = .next
      { s.afterBus [.busW s.cfgDevAddr 0x0018 0x00 true] with seqState := .clr1 }) ∧
    (s.seqState = .clr1 → s.nextDraw.ack = true → exec .clrmodes s = .next
      { s.afterBus [.busW s.cfgDevAddr 0x0038 0x00 true] with seqState := .clr2 }) ∧
    (s.seqState = .clr2 → s.nextDraw.ack = true → exec .clrmodes s = .next
      { s.afterBus [.busW s.cfgDevAddr 0x02A3 0x00 true, .resp 0 0] with
        seqState := .idle, rspStatus := 0, rspResult := 0 })

/-- Every `SETM`, step by step, each write answered `ok`: `CFG_MODE` written at accept before any
transaction (R102), the clear sequence (R101), then no further write in the two single-shot modes and
exactly the mode's own write in the others (R103). -/
def Obligations.SetModeSteps : Prop :=
  ∀ row ∈ setModeTable, ∀ s : State,
    (s.seqState = .idle → exec row.1 s = .next { s with
      latOp := 2, latMode := row.2.1, latOpnd := 0, cfgMode := row.2.1, seqState := .clr0 }) ∧
    (s.seqState = .clr0 → s.nextDraw.ack = true → exec row.1 s = .next
      { s.afterBus [.busW s.cfgDevAddr 0x0018 0x00 true] with seqState := .clr1 }) ∧
    (s.seqState = .clr1 → s.nextDraw.ack = true → exec row.1 s = .next
      { s.afterBus [.busW s.cfgDevAddr 0x0038 0x00 true] with seqState := .clr2 }) ∧
    (s.seqState = .clr2 → s.nextDraw.ack = true → row.2.2 = none → exec row.1 s = .next
      { s.afterBus [.busW s.cfgDevAddr 0x02A3 0x00 true, .resp 0 0] with
        seqState := .idle, rspStatus := 0, rspResult := 0 }) ∧
    (s.seqState = .clr2 → s.nextDraw.ack = true → row.2.2 ≠ none → exec row.1 s = .next
      { s.afterBus [.busW s.cfgDevAddr 0x02A3 0x00 true] with seqState := .mwr }) ∧
    (∀ reg b, s.seqState = .mwr → s.nextDraw.ack = true → row.2.2 = some (reg, b) →
      exec row.1 s = .next
        { s.afterBus [.busW s.cfgDevAddr reg b true, .resp 0 0] with
          seqState := .idle, rspStatus := 0, rspResult := 0 })

/-- A whole `CLRM`, from its submission to its response: four steps, and the bus trace of R110. -/
def Obligations.ClrmodesRunsToItsResponse : Prop :=
  ∀ (s : State) (rest : List CmdWord) (a b c : BusDraw) (more : List BusDraw),
    s.seqState = .idle → s.resetIn = [] → s.hostCmds = 0x0000000000000001 :: rest →
    s.busAnswers = a :: b :: c :: more → a.ack = true → b.ack = true → c.ack = true →
    Host.Core.run core 4 s = .next ({ s with
      hostCmds := rest, latOp := 1, latMode := 0, latOpnd := 0, rspStatus := 0, rspResult := 0,
      busAnswers := more, drawCount := s.drawCount + 3,
      trace := s.trace ++
        [.accept 0x0000000000000001, .busW s.cfgDevAddr 0x0018 0x00 true,
         .busW s.cfgDevAddr 0x0038 0x00 true, .busW s.cfgDevAddr 0x02A3 0x00 true,
         .resp 0 0] } : State)

/-- A whole `SETM` of a single-shot mode: the clear sequence only, four steps, from any mode (R120, R121). -/
def Obligations.SingleShotModesRunToTheirResponse : Prop :=
  ∀ row ∈ [((0x0000000000000002 : CmdWord), (0 : BitVec 3)), (0x0000000000000012, 1)],
  ∀ (s : State) (rest : List CmdWord) (a b c : BusDraw) (more : List BusDraw),
    s.seqState = .idle → s.resetIn = [] → s.hostCmds = row.1 :: rest →
    s.busAnswers = a :: b :: c :: more → a.ack = true → b.ack = true → c.ack = true →
    Host.Core.run core 4 s = .next ({ s with
      hostCmds := rest, latOp := 2, latMode := row.2, latOpnd := 0, cfgMode := row.2,
      rspStatus := 0, rspResult := 0, busAnswers := more, drawCount := s.drawCount + 3,
      trace := s.trace ++
        [.accept row.1, .busW s.cfgDevAddr 0x0018 0x00 true, .busW s.cfgDevAddr 0x0038 0x00 true,
         .busW s.cfgDevAddr 0x02A3 0x00 true, .resp 0 0] } : State)

/-- A whole `SETM` of any other mode: the clear sequence and the mode's one terminal write, five steps
(R122 to R126). -/
def Obligations.ContinuousModesRunToTheirResponse : Prop :=
  ∀ row ∈ [((0x0000000000000022 : CmdWord), (2 : BitVec 3), (0x0038 : RegAddr), (0x03 : Byte)),
           (0x0000000000000032, 3, 0x0018, 0x03), (0x0000000000000042, 4, 0x0018, 0x03),
           (0x0000000000000052, 5, 0x0038, 0x03), (0x0000000000000062, 6, 0x02A3, 0x01)],
  ∀ (s : State) (rest : List CmdWord) (a b c d : BusDraw) (more : List BusDraw),
    s.seqState = .idle → s.resetIn = [] → s.hostCmds = row.1 :: rest →
    s.busAnswers = a :: b :: c :: d :: more →
    a.ack = true → b.ack = true → c.ack = true → d.ack = true →
    Host.Core.run core 5 s = .next ({ s with
      hostCmds := rest, latOp := 2, latMode := row.2.1, latOpnd := 0, cfgMode := row.2.1,
      rspStatus := 0, rspResult := 0, busAnswers := more, drawCount := s.drawCount + 4,
      trace := s.trace ++
        [.accept row.1, .busW s.cfgDevAddr 0x0018 0x00 true, .busW s.cfgDevAddr 0x0038 0x00 true,
         .busW s.cfgDevAddr 0x02A3 0x00 true, .busW s.cfgDevAddr row.2.2.1 row.2.2.2 true,
         .resp 0 0] } : State)

/-- The values last written to the three mode registers by a `SETM` that answers `OK` in its last step,
by mode: R127's table. The run is any run of the steps R289 gives the command. -/
def Obligations.LastWrittenModeRegistersByMode : Prop :=
  ∀ row ∈ [((0x0000000000000002 : CmdWord), (4 : Nat), (0x00 : Byte), (0x00 : Byte), (0x00 : Byte)),
           (0x0000000000000012, 4, 0x00, 0x00, 0x00), (0x0000000000000022, 5, 0x00, 0x03, 0x00),
           (0x0000000000000032, 5, 0x03, 0x00, 0x00), (0x0000000000000042, 5, 0x03, 0x00, 0x00),
           (0x0000000000000052, 5, 0x00, 0x03, 0x00), (0x0000000000000062, 5, 0x00, 0x00, 0x01)],
  ∀ (s : State) (rest : List CmdWord) (t : State),
    s.seqState = .idle → s.resetIn = [] → s.hostCmds = row.1 :: rest →
    Host.Core.run core row.2.1 s = .next t → t.trace.getLast? = some (.resp 0 0) → t.hostCmds = rest →
      lastWritten 0x0018 (t.trace.drop s.trace.length) = some row.2.2.1 ∧
      lastWritten 0x0038 (t.trace.drop s.trace.length) = some row.2.2.2.1 ∧
      lastWritten 0x02A3 (t.trace.drop s.trace.length) = some row.2.2.2.2 ∧
      (t.trace.drop s.trace.length).countP Event.isBus = row.2.1 - 1

/-- A `SETM` of a mode with a terminal write whose `k`-th write is the first to fail, `k` from 1 to 4: the
writes 1 to `k` are issued and no later one, and `CFG_MODE` holds the requested mode (R128). -/
def Obligations.FailedWriteStopsASetModeWhereItFails : Prop :=
  ∀ row ∈ [((0x0000000000000022 : CmdWord), (2 : BitVec 3), (0x0038 : RegAddr), (0x03 : Byte)),
           (0x0000000000000032, 3, 0x0018, 0x03), (0x0000000000000042, 4, 0x0018, 0x03),
           (0x0000000000000052, 5, 0x0038, 0x03), (0x0000000000000062, 6, 0x02A3, 0x01)],
  ∀ (s : State) (rest : List CmdWord) (oks : List BusDraw) (bad : BusDraw) (more : List BusDraw),
    s.seqState = .idle → s.resetIn = [] → s.hostCmds = row.1 :: rest →
    s.busAnswers = oks ++ bad :: more → (∀ d ∈ oks, d.ack = true) → bad.ack = false → oks.length ≤ 3 →
    ∃ t, Host.Core.run core (2 + oks.length) s = .next t ∧
      t.seqState = .idle ∧ t.cfgMode = row.2.1 ∧ t.cfgGainIdx = s.cfgGainIdx ∧
      t.cfgIPeriod = s.cfgIPeriod ∧ t.rspStatus = 1 ∧ t.rspResult = 0 ∧ t.busAnswers = more ∧
      t.trace = s.trace ++ .accept row.1 ::
        ((([(0x0018, 0x00), (0x0038, 0x00), (0x02A3, 0x00), row.2.2] :
            List (RegAddr × Byte)).take (oks.length + 1)).zip
          ((oks ++ [bad]).map BusDraw.ack)).map (fun w => .busW s.cfgDevAddr w.1.1 w.1.2 w.2) ++
        [.resp 1 0]

/-! ## Measurement Protocol -/

/-- `RDRS`, step by step, each transaction answered `ok` (R140, R141, R143, R145, R146, R150). -/
def Obligations.ReadRangeSteps : Prop :=
  ∀ s : State,
    (s.seqState = .idle → exec .rdrangeSs s = .next { s with
      latOp := 3, latMode := 0, latOpnd := 0, cfgMode := 0, seqState := .clr0 }) ∧
    (s.seqState = .clr0 → s.nextDraw.ack = true → exec .rdrangeSs s = .next
      { s.afterBus [.busW s.cfgDevAddr 0x0018 0x00 true] with seqState := .clr1 }) ∧
    (s.seqState = .clr1 → s.nextDraw.ack = true → exec .rdrangeSs s = .next
      { s.afterBus [.busW s.cfgDevAddr 0x0038 0x00 true] with seqState := .clr2 }) ∧
    (s.seqState = .clr2 → s.nextDraw.ack = true → exec .rdrangeSs s = .next
      { s.afterBus [.busW s.cfgDevAddr 0x02A3 0x00 true] with seqState := .trig }) ∧
    (s.seqState = .trig → s.nextDraw.ack = true → exec .rdrangeSs s = .next
      { s.afterBus [.busW s.cfgDevAddr 0x0018 0x01 true] with pollCnt := 0, seqState := .poll }) ∧
    (s.seqState = .poll → s.nextDraw.ack = true → s.nextDraw.b0.toNat % 8 = 4 →
      exec .rdrangeSs s = .next
        { s.afterBus [.busR s.cfgDevAddr 0x004F 1 (some [s.nextDraw.b0])] with seqState := .res }) ∧
    (s.seqState = .poll → s.nextDraw.ack = true → s.nextDraw.b0.toNat % 8 ≠ 4 →
      s.params.pollLimit ≠ some (s.pollCnt + 1) → exec .rdrangeSs s = .next
        { s.afterBus [.busR s.cfgDevAddr 0x004F 1 (some [s.nextDraw.b0])] with pollCnt := s.pollCnt + 1 }) ∧
    (s.seqState = .poll → s.nextDraw.ack = true → s.nextDraw.b0.toNat % 8 ≠ 4 →
      s.params.pollLimit = some (s.pollCnt + 1) → exec .rdrangeSs s = .next
        { s.afterBus [.busR s.cfgDevAddr 0x004F 1 (some [s.nextDraw.b0]), .resp 3 0] with
          pollCnt := s.pollCnt + 1, seqState := .idle, rspStatus := 3, rspResult := 0 }) ∧
    (s.seqState = .res → s.nextDraw.ack = true → exec .rdrangeSs s = .next
      { s.afterBus [.busR s.cfgDevAddr 0x0062 1 (some [s.nextDraw.b0]),
          .resp 0 (BitVec.ofNat 32 s.nextDraw.b0.toNat)] with
        seqState := .idle, rspStatus := 0, rspResult := BitVec.ofNat 32 s.nextDraw.b0.toNat })

/-- `RDAS`, step by step, each transaction answered `ok` (R142, R143, R145, R146, R148, R151). In `RES` the
answer is `LUX_DOMAIN` where the stored period is at or below 0 (R161); else `LuxRef` of the big-endian raw
value, `CFG_GAIN_IDX` and `CFG_IPERIOD` where `P_LUX_FN` is `LuxRef` (R160), and, the model's choice of log
entry 5, its free function of the same three where it is another. -/
def Obligations.ReadAlsSteps : Prop :=
  ∀ s : State,
    (s.seqState = .idle → exec .rdalsSs s = .next { s with
      latOp := 4, latMode := 0, latOpnd := 0, cfgMode := 1, seqState := .clr0 }) ∧
    (s.seqState = .clr0 → s.nextDraw.ack = true → exec .rdalsSs s = .next
      { s.afterBus [.busW s.cfgDevAddr 0x0018 0x00 true] with seqState := .clr1 }) ∧
    (s.seqState = .clr1 → s.nextDraw.ack = true → exec .rdalsSs s = .next
      { s.afterBus [.busW s.cfgDevAddr 0x0038 0x00 true] with seqState := .clr2 }) ∧
    (s.seqState = .clr2 → s.nextDraw.ack = true → exec .rdalsSs s = .next
      { s.afterBus [.busW s.cfgDevAddr 0x02A3 0x00 true] with seqState := .trig }) ∧
    (s.seqState = .trig → s.nextDraw.ack = true → exec .rdalsSs s = .next
      { s.afterBus [.busW s.cfgDevAddr 0x0038 0x01 true] with pollCnt := 0, seqState := .poll }) ∧
    (s.seqState = .poll → s.nextDraw.ack = true →
      AlsFieldReady s.params.alsReadyTest s.nextDraw.b0.toNat → exec .rdalsSs s = .next
        { s.afterBus [.busR s.cfgDevAddr 0x004F 1 (some [s.nextDraw.b0])] with seqState := .res }) ∧
    (s.seqState = .poll → s.nextDraw.ack = true →
      ¬ AlsFieldReady s.params.alsReadyTest s.nextDraw.b0.toNat →
      s.params.pollLimit ≠ some (s.pollCnt + 1) → exec .rdalsSs s = .next
        { s.afterBus [.busR s.cfgDevAddr 0x004F 1 (some [s.nextDraw.b0])] with pollCnt := s.pollCnt + 1 }) ∧
    (s.seqState = .poll → s.nextDraw.ack = true →
      ¬ AlsFieldReady s.params.alsReadyTest s.nextDraw.b0.toNat →
      s.params.pollLimit = some (s.pollCnt + 1) → exec .rdalsSs s = .next
        { s.afterBus [.busR s.cfgDevAddr 0x004F 1 (some [s.nextDraw.b0]), .resp 3 0] with
          pollCnt := s.pollCnt + 1, seqState := .idle, rspStatus := 3, rspResult := 0 }) ∧
    (s.seqState = .res → s.nextDraw.ack = true → 0 < s.cfgIPeriod.toInt → exec .rdalsSs s = .next
      (let raw : BitVec 16 := BitVec.ofNat 16 (s.nextDraw.b0.toNat * 256 + s.nextDraw.b1.toNat)
       let lux : Word32 :=
         if s.params.luxFn = .luxRef then luxRef raw s.cfgGainIdx s.cfgIPeriod
         else Config.otherLuxFn raw s.cfgGainIdx s.cfgIPeriod
       { s.afterBus [.busR s.cfgDevAddr 0x0050 2 (some [s.nextDraw.b0, s.nextDraw.b1]), .resp 0 lux] with
          seqState := .idle, rspStatus := 0, rspResult := lux })) ∧
    (s.seqState = .res → s.nextDraw.ack = true → s.cfgIPeriod.toInt ≤ 0 → exec .rdalsSs s = .next
      { s.afterBus [.busR s.cfgDevAddr 0x0050 2 (some [s.nextDraw.b0, s.nextDraw.b1]), .resp 6 0] with
        seqState := .idle, rspStatus := 6, rspResult := 0 })

/-- A whole `RDRS` with any number of status reads that are not ready before the one that is, below the
poll limit where there is one: `6 + k` steps after `k` status reads, and the result byte unmodified
(R140, R146, R289). -/
def Obligations.ReadRangeRunsToItsResponse : Prop :=
  ∀ (s : State) (rest : List CmdWord) (a b c d : BusDraw) (waits : List BusDraw) (st r : BusDraw)
    (more : List BusDraw),
    s.seqState = .idle → s.resetIn = [] → s.hostCmds = 0x0000000000000003 :: rest →
    s.busAnswers = a :: b :: c :: d :: (waits ++ st :: r :: more) →
    a.ack = true → b.ack = true → c.ack = true → d.ack = true → st.ack = true → r.ack = true →
    (∀ x ∈ waits, x.ack = true ∧ x.b0.toNat % 8 ≠ 4) → st.b0.toNat % 8 = 4 →
    (∀ n, s.params.pollLimit = some n → waits.length < n) →
    Host.Core.run core (7 + waits.length) s = .next ({ s with
      hostCmds := rest, latOp := 3, latMode := 0, latOpnd := 0, cfgMode := 0,
      pollCnt := waits.length, rspStatus := 0, rspResult := BitVec.ofNat 32 r.b0.toNat,
      busAnswers := more, drawCount := s.drawCount + (6 + waits.length),
      trace := s.trace ++
        ([.accept 0x0000000000000003, .busW s.cfgDevAddr 0x0018 0x00 true,
          .busW s.cfgDevAddr 0x0038 0x00 true, .busW s.cfgDevAddr 0x02A3 0x00 true,
          .busW s.cfgDevAddr 0x0018 0x01 true] ++
         waits.map (fun x => .busR s.cfgDevAddr 0x004F 1 (some [x.b0])) ++
         [.busR s.cfgDevAddr 0x004F 1 (some [st.b0]), .busR s.cfgDevAddr 0x0062 1 (some [r.b0]),
          .resp 0 (BitVec.ofNat 32 r.b0.toNat)]) } : State)

/-- A whole `RDAS`, in the same form (R155, R160, R161, R289): where `P_LUX_FN` is `LuxRef`, `LuxRef` of the
big-endian result bytes under the configuration's gain and period; where it is another, the free function of
log entry 5 of the same; or `LUX_DOMAIN` after the same transactions where the stored period is at or below
0. -/
def Obligations.ReadAlsRunsToItsResponse : Prop :=
  ∀ (s : State) (rest : List CmdWord) (a b c d : BusDraw) (waits : List BusDraw) (st r : BusDraw)
    (more : List BusDraw) (status : BitVec 8) (result : Word32),
    s.seqState = .idle → s.resetIn = [] → s.hostCmds = 0x0000000000000004 :: rest →
    s.busAnswers = a :: b :: c :: d :: (waits ++ st :: r :: more) →
    a.ack = true → b.ack = true → c.ack = true → d.ack = true → st.ack = true → r.ack = true →
    (∀ x ∈ waits, x.ack = true ∧ ¬ AlsFieldReady s.params.alsReadyTest x.b0.toNat) →
    AlsFieldReady s.params.alsReadyTest st.b0.toNat →
    (∀ n, s.params.pollLimit = some n → waits.length < n) →
    ((s.cfgIPeriod.toInt ≤ 0 ∧ status = 6 ∧ result = 0) ∨
     (0 < s.cfgIPeriod.toInt ∧ status = 0 ∧
      result =
        if s.params.luxFn = .luxRef then
          luxRef (BitVec.ofNat 16 (r.b0.toNat * 256 + r.b1.toNat)) s.cfgGainIdx s.cfgIPeriod
        else
          Config.otherLuxFn (BitVec.ofNat 16 (r.b0.toNat * 256 + r.b1.toNat)) s.cfgGainIdx s.cfgIPeriod)) →
    Host.Core.run core (7 + waits.length) s = .next ({ s with
      hostCmds := rest, latOp := 4, latMode := 0, latOpnd := 0, cfgMode := 1,
      pollCnt := waits.length, rspStatus := status, rspResult := result,
      busAnswers := more, drawCount := s.drawCount + (6 + waits.length),
      trace := s.trace ++
        ([.accept 0x0000000000000004, .busW s.cfgDevAddr 0x0018 0x00 true,
          .busW s.cfgDevAddr 0x0038 0x00 true, .busW s.cfgDevAddr 0x02A3 0x00 true,
          .busW s.cfgDevAddr 0x0038 0x01 true] ++
         waits.map (fun x => .busR s.cfgDevAddr 0x004F 1 (some [x.b0])) ++
         [.busR s.cfgDevAddr 0x004F 1 (some [st.b0]),
          .busR s.cfgDevAddr 0x0050 2 (some [r.b0, r.b1]), .resp status result]) } : State)

/-- With `P_POLL_LIMIT = N`, `N` status reads that are not ready end an `RDRS` with `TIMEOUT` after `5 + N`
steps: no result read, no start register cleared, `CFG_MODE` as its accept step wrote it (R146, R289). -/
def Obligations.PollLimitEndsAReadRangeWithTimeout : Prop :=
  ∀ (s : State) (rest : List CmdWord) (a b c d : BusDraw) (waits more : List BusDraw),
    s.seqState = .idle → s.resetIn = [] → s.hostCmds = 0x0000000000000003 :: rest →
    s.busAnswers = a :: b :: c :: d :: (waits ++ more) →
    a.ack = true → b.ack = true → c.ack = true → d.ack = true →
    (∀ x ∈ waits, x.ack = true ∧ x.b0.toNat % 8 ≠ 4) →
    s.params.pollLimit = some waits.length → 1 ≤ waits.length →
    Host.Core.run core (5 + waits.length) s = .next ({ s with
      hostCmds := rest, latOp := 3, latMode := 0, latOpnd := 0, cfgMode := 0,
      pollCnt := waits.length, rspStatus := 3, rspResult := 0,
      busAnswers := more, drawCount := s.drawCount + (4 + waits.length),
      trace := s.trace ++
        ([.accept 0x0000000000000003, .busW s.cfgDevAddr 0x0018 0x00 true,
          .busW s.cfgDevAddr 0x0038 0x00 true, .busW s.cfgDevAddr 0x02A3 0x00 true,
          .busW s.cfgDevAddr 0x0018 0x01 true] ++
         waits.map (fun x => .busR s.cfgDevAddr 0x004F 1 (some [x.b0])) ++ [.resp 3 0]) } : State)

/-- With `P_POLL_LIMIT = none` the poll never ends by itself: after any number of status reads that are
not ready, a measurement command in its poll is still in it, and no response has been delivered (R146,
R284). -/
def Obligations.UnboundedPollNeverAnswers : Prop :=
  ∀ (s : State) (i : Instr) (waits more : List BusDraw),
    s.seqState = .poll → s.resetIn = [] → s.params.pollLimit = none →
    decode (packWord s.latOpnd 0 s.latMode s.latOp) = .ok i →
    s.busAnswers = waits ++ more →
    ((i = .rdrangeSs ∧ ∀ x ∈ waits, x.ack = true ∧ x.b0.toNat % 8 ≠ 4) ∨
     (i = .rdalsSs ∧ ∀ x ∈ waits, x.ack = true ∧ ¬ AlsFieldReady s.params.alsReadyTest x.b0.toNat)) →
    Host.Core.run core waits.length s = .next ({ s with
      pollCnt := s.pollCnt + waits.length, busAnswers := more,
      drawCount := s.drawCount + waits.length,
      trace := s.trace ++ waits.map (fun x => .busR s.cfgDevAddr 0x004F 1 (some [x.b0])) } : State)

/-- `RDRC` and `RDAC`, the words `0x7` and `0x8`, end at their accept step with `UNIMPLEMENTED`, with no
bus transaction and no register but the latches and the response written (R170, R171). -/
def Obligations.ContinuousReadsAnswerUnimplemented : Prop :=
  decode 0x0000000000000007 = .ok .rdrangeCont ∧ decode 0x0000000000000008 = .ok .rdalsCont ∧
  ∀ s : State, s.seqState = .idle →
    exec .rdrangeCont s = .next { s with
      latOp := 7, latMode := 0, latOpnd := 0, rspStatus := 5, rspResult := 0,
      trace := s.trace ++ [.resp 5 0] } ∧
    exec .rdalsCont s = .next { s with
      latOp := 8, latMode := 0, latOpnd := 0, rspStatus := 5, rspResult := 0,
      trace := s.trace ++ [.resp 5 0] }

/-- Readiness of a status byte: the range field (R147) and the two readings of the ALS field (R148). The last
clause is the sentence of R148 that the spec marks as derived from the two formulas: the readings agree
exactly where it is not the case that `s[5] = 1` and `s[4:3] != 00`. -/
def Obligations.StatusByteReadiness : Prop :=
  ∀ b : Byte,
    (rangeReady b = true ↔ b.toNat % 8 = 4) ∧
    (alsReady .fieldEq b = true ↔ b.toNat / 8 % 8 = 4) ∧
    (alsReady .bit2 b = true ↔ b.toNat / 32 % 2 = 1) ∧
    (alsReady .fieldEq b = alsReady .bit2 b ↔ ¬ (b.toNat / 32 % 2 = 1 ∧ b.toNat / 8 % 4 ≠ 0))

/-! ## Quantizers -/

/-- `SETG`, step by step (R192, R200, R201): the strict rejection, the selector's tier latched, then the
tier's code written and, once that write answered `ok`, the index stored and answered with its code. -/
def Obligations.SetGainSteps : Prop :=
  ∀ (s : State) (x : Word32),
    (s.seqState = .idle → (s.params.strictParams = true →
        f32IsNaN x = false ∧ f32Units x ≤ 40 * 2 ^ 149) →
      exec (.setgain x) s = .next { s with
        latOp := 5, latMode := 0, latOpnd := x, latTier := gainSelect x, seqState := .gwr }) ∧
    (s.seqState = .idle → s.params.strictParams = true →
        (f32IsNaN x = true ∨ 40 * 2 ^ 149 < f32Units x) →
      exec (.setgain x) s = .next { s with
        latOp := 5, latMode := 0, latOpnd := x, rspStatus := 2, rspResult := 0,
        trace := s.trace ++ [.resp 2 0] }) ∧
    (s.seqState = .gwr → s.nextDraw.ack = true →
      exec (.setgain x) s = .next
        (let code : Nat := [6, 5, 4, 3, 2, 1, 0, 7].getD s.latTier.toNat 0
         let result : Word32 := BitVec.ofNat 32 (code * 8 + s.latTier.toNat)
         { s.afterBus [.busW s.cfgDevAddr s.params.addrAlsGain (BitVec.ofNat 8 code) true,
             .resp 0 result] with
           cfgGainIdx := s.latTier, seqState := .idle, rspStatus := 0, rspResult := result }))

/-- `SETP`, step by step (R210, R211, R212): the strict rejection, then the byte `(ms - 1) mod 256`
written and, once that write answered `ok`, the requested value stored. -/
def Obligations.SetPeriodSteps : Prop :=
  ∀ (s : State) (ms : Word32),
    (s.seqState = .idle → (s.params.strictParams = true → 1 ≤ ms.toInt ∧ ms.toInt ≤ 256) →
      exec (.setperiod ms) s = .next { s with
        latOp := 6, latMode := 0, latOpnd := ms, seqState := .pwr }) ∧
    (s.seqState = .idle → s.params.strictParams = true → ¬ (1 ≤ ms.toInt ∧ ms.toInt ≤ 256) →
      exec (.setperiod ms) s = .next { s with
        latOp := 6, latMode := 0, latOpnd := ms, rspStatus := 2, rspResult := 0,
        trace := s.trace ++ [.resp 2 0] }) ∧
    (s.seqState = .pwr → s.nextDraw.ack = true →
      exec (.setperiod ms) s = .next
        { s.afterBus [.busW s.cfgDevAddr s.params.addrAlsIPeriod
            (BitVec.ofInt 8 ((s.latOpnd.toInt - 1) % 256)) true, .resp 0 0] with
          cfgIPeriod := s.latOpnd, seqState := .idle, rspStatus := 0, rspResult := 0 })

/-- A whole `SETG` whose write answers `ok`, two steps, for every operand the strict check does not
reject (R200, R289). -/
def Obligations.SetGainRunsToItsResponse : Prop :=
  ∀ (s : State) (x : Word32) (rest : List CmdWord) (a : BusDraw) (more : List BusDraw),
    s.seqState = .idle → s.resetIn = [] → s.hostCmds = encode (.setgain x) :: rest →
    s.busAnswers = a :: more → a.ack = true →
    (s.params.strictParams = true → f32IsNaN x = false ∧ f32Units x ≤ 40 * 2 ^ 149) →
    Host.Core.run core 2 s = .next
      (let code : Nat := [6, 5, 4, 3, 2, 1, 0, 7].getD (gainSelect x).toNat 0
       let result : Word32 := BitVec.ofNat 32 (code * 8 + (gainSelect x).toNat)
       ({ s with
          hostCmds := rest, latOp := 5, latMode := 0, latOpnd := x, latTier := gainSelect x,
          cfgGainIdx := gainSelect x, rspStatus := 0, rspResult := result,
          busAnswers := more, drawCount := s.drawCount + 1,
          trace := s.trace ++ [.accept (encode (.setgain x)),
            .busW s.cfgDevAddr s.params.addrAlsGain (BitVec.ofNat 8 code) true,
            .resp 0 result] } : State))

/-- A whole `SETP` whose write answers `ok`, two steps, for every operand the strict check does not
reject (R211, R289). -/
def Obligations.SetPeriodRunsToItsResponse : Prop :=
  ∀ (s : State) (ms : Word32) (rest : List CmdWord) (a : BusDraw) (more : List BusDraw),
    s.seqState = .idle → s.resetIn = [] → s.hostCmds = encode (.setperiod ms) :: rest →
    s.busAnswers = a :: more → a.ack = true →
    (s.params.strictParams = true → 1 ≤ ms.toInt ∧ ms.toInt ≤ 256) →
    Host.Core.run core 2 s = .next ({ s with
      hostCmds := rest, latOp := 6, latMode := 0, latOpnd := ms, cfgIPeriod := ms,
      rspStatus := 0, rspResult := 0, busAnswers := more, drawCount := s.drawCount + 1,
      trace := s.trace ++ [.accept (encode (.setperiod ms)),
        .busW s.cfgDevAddr s.params.addrAlsIPeriod (BitVec.ofInt 8 ((ms.toInt - 1) % 256)) true,
        .resp 0 0] } : State)

/-- `GainSelect` on every operand that is not a NaN: R193's table of intervals with index, tier and code,
the operand's exact value in units of `2^-149`, the breakpoint of tier 2 being `0x3FD5C28F`. -/
def Obligations.GainSelectionIntervals : Prop :=
  ∀ x : Word32, f32IsNaN x = false →
    (gainSelect x, tierValue (gainSelect x), tierByte (gainSelect x)) =
      if f32Units x ≤ 2 ^ 149 then (0, (1, 1), 6)
      else if f32Units x ≤ 5 * 2 ^ 147 then (1, (5, 4), 5)
      else if f32Units x ≤ 0xD5C28F * 2 ^ 126 then (2, (167, 100), 4)
      else if f32Units x ≤ 5 * 2 ^ 148 then (3, (5, 2), 3)
      else if f32Units x ≤ 5 * 2 ^ 149 then (4, (5, 1), 2)
      else if f32Units x ≤ 10 * 2 ^ 149 then (5, (10, 1), 1)
      else if f32Units x ≤ 20 * 2 ^ 149 then (6, (20, 1), 0)
      else if f32Units x ≤ 40 * 2 ^ 149 then (7, (40, 1), 7)
      else (0, (1, 1), 6)

/-- A NaN, of any sign and kind, selects the fallback tier 1.0, code 6 (R194). -/
def Obligations.NaNSelectsTheFallbackTier : Prop :=
  ∀ x : Word32, x.toNat / 2 ^ 23 % 256 = 255 → x.toNat % 2 ^ 23 ≠ 0 →
    gainSelect x = 0 ∧ tierValue (gainSelect x) = (1, 1) ∧ tierByte (gainSelect x) = 6

/-- Comparing with a binary32 breakpoint is comparing with the exact decimal literal of its tier, for
every operand that is not a NaN (R195). -/
def Obligations.BreakpointsAgreeWithDecimalLiterals : Prop :=
  ∀ x : Word32, f32IsNaN x = false →
    ∀ row ∈ [((0x3F800000 : Word32), (1 : Int), (1 : Int)), (0x3FA00000, 125, 100),
             (0x3FD5C28F, 167, 100), (0x40200000, 25, 10), (0x40A00000, 5, 1), (0x41200000, 10, 1),
             (0x41A00000, 20, 1), (0x42200000, 40, 1)],
      (f32Le x row.1 = true ↔ f32Units x * row.2.2 ≤ row.2.1 * 2 ^ 149)

/-- `PeriodByte` is `(ms - 1) mod 256` on integers, and `ms - 1` on the valid domain 1 to 256 (R210). The
second clause, 32-bit subtraction keeping the low 8 bits, is the sentence of R210 that the spec marks as
derived from its definition. -/
def Obligations.PeriodByteWraps : Prop :=
  ∀ ms : Word32,
    ((periodByte ms).toNat : Int) = (ms.toInt - 1) % 256 ∧
    periodByte ms = (ms - 1).setWidth 8 ∧
    (1 ≤ ms.toInt → ms.toInt ≤ 256 → ((periodByte ms).toNat : Int) = ms.toInt - 1)

/-! ## Lux conversion -/

/-- `LuxRef` is the binary32 value nearest the exact `q = 32*raw / (TIER_VALUE[i]*T)`, a tie going to the
even significand (R15, R160). With `q = n / d`, distances are compared in units of `2^-149 / d`. -/
def Obligations.LuxRefIsTheNearestBinary32 : Prop :=
  ∀ (raw : BitVec 16) (i : TierIdx) (t y : Word32), 1 ≤ t.toInt → y.toNat < 0x7F800000 →
    let n := 32 * raw.toNat * (tierFraction i).2
    let d := (tierFraction i).1 * t.toNat
    let r := luxRef raw i t
    ((f32Mag r : Int) * d - n * 2 ^ 149).natAbs ≤ ((f32Mag y : Int) * d - n * 2 ^ 149).natAbs ∧
    (((f32Mag r : Int) * d - n * 2 ^ 149).natAbs = ((f32Mag y : Int) * d - n * 2 ^ 149).natAbs →
      y ≠ r → r.toNat % 2 = 0)

/-- A raw value of 0 gives `+0.0`, for every tier and period (R162(a)). -/
def Obligations.LuxOfZeroIsZero : Prop :=
  ∀ (i : TierIdx) (t : Word32), 1 ≤ t.toInt → luxRef 0 i t = 0

/-- On its domain `LuxRef` is never negative, a NaN or infinite, never subnormal, at most `2097120.0`, and
zero exactly for a raw value of 0 (R162(b), R162(c)). -/
def Obligations.LuxRefIsZeroOrNormalAndBounded : Prop :=
  ∀ (raw : BitVec 16) (i : TierIdx) (t : Word32), 1 ≤ t.toInt →
    (luxRef raw i t).toNat ≤ 0x49FFFF00 ∧
    (luxRef raw i t = 0 ∨ 0x00800000 ≤ (luxRef raw i t).toNat) ∧
    (luxRef raw i t = 0 ↔ raw = 0)

/-- Where `q` is representable in binary32 the result is exactly `q` (R162(d)). -/
def Obligations.LuxRefIsExactWhereRepresentable : Prop :=
  ∀ (raw : BitVec 16) (i : TierIdx) (t y : Word32), 1 ≤ t.toInt → y.toNat < 0x7F800000 →
    f32Mag y * ((tierFraction i).1 * t.toNat) = 32 * raw.toNat * (tierFraction i).2 * 2 ^ 149 →
    luxRef raw i t = y

/-- For a fixed tier and period the result is non-decreasing in the raw value (R162(e)). -/
def Obligations.LuxRefIsMonotoneInRaw : Prop :=
  ∀ (raw raw' : BitVec 16) (i : TierIdx) (t : Word32), 1 ≤ t.toInt → raw.toNat ≤ raw'.toNat →
    (luxRef raw i t).toNat ≤ (luxRef raw' i t).toNat

/-! ## Rules over the whole machine -/

/-- The reset state meets the invariant. Its registers are R34's. That well-formed parameters stand in it is the
model's choice: the default parameters of R11 by log entry 3, and two OPEN addresses that are registers of
their own by log entry 22. -/
def Obligations.ResetStateMeetsTheInvariant : Prop := State.reset.Inv

/-- Every step keeps the invariant, reset or not, whatever the host submits and the bus answers. -/
def Obligations.EveryStepKeepsTheInvariant : Prop :=
  ∀ s t : State, s.Inv → step s = .next t → t.Inv

/-- From every state that meets the invariant a run of any length ends in a next state. A command in progress
has its step by R30 and `IDLE` takes every word by R80. In `IDLE` without a word the run goes on by log entry
16, and the fault it never raises is log entry 17's: both are the model's reading, no rule of the spec. -/
def Obligations.NoRunFromTheInvariantStops : Prop := ∀ s : State, s.Inv → s.NeverStops

/-- A step without reset keeps the count of R246: each accepted command has been answered by exactly one
response, but for the one in progress. -/
def Obligations.EveryAcceptedCommandIsAnsweredOnce : Prop :=
  ∀ s t : State, s.Balanced → s.resetIn.headD false = false → step s = .next t → t.Balanced

/-- A step only appends to the trace, and at most one bus transaction (R10, R14, R62); it consumes one answer
of the bus for each transaction and none without one. -/
def Obligations.AStepAppendsAtMostOneTransaction : Prop :=
  ∀ s t : State, step s = .next t →
    ∃ evs, t.trace = s.trace ++ evs ∧ evs.countP Event.isBus ≤ 1 ∧
      t.drawCount = s.drawCount + evs.countP Event.isBus ∧
      t.busAnswers = s.busAnswers.drop (evs.countP Event.isBus)

/-- In a step without reset, `CFG_MODE` changes only at the accept step of a command that requests a mode, to
that mode (R23, R102, R141, R142). -/
def Obligations.ModeChangesOnlyAtAccept : Prop :=
  ∀ s t : State, s.resetIn.headD false = false → step s = .next t →
    t.cfgMode = s.cfgMode ∨
    ∃ w rest i m, s.seqState = .idle ∧ s.hostCmds = w :: rest ∧ decode w = .ok i ∧
      i.requestedMode = some m ∧ t.cfgMode = m

/-- In a step without reset, `CFG_GAIN_IDX` changes only in `SETG`'s write step, to the latched tier, and only
when the write answered `ok`, the response being `OK` (R24, R200, R234). -/
def Obligations.GainIndexChangesOnlyAfterItsWrite : Prop :=
  ∀ s t : State, s.resetIn.headD false = false → step s = .next t → t.cfgGainIdx ≠ s.cfgGainIdx →
    s.seqState = .gwr ∧ s.nextDraw.ack = true ∧ t.cfgGainIdx = s.latTier ∧ t.rspStatus = 0

/-- In a step without reset, `CFG_IPERIOD` changes only in `SETP`'s write step, to the latched operand, and
only when the write answered `ok`, the response being `OK` (R25, R211, R234). -/
def Obligations.PeriodChangesOnlyAfterItsWrite : Prop :=
  ∀ s t : State, s.resetIn.headD false = false → step s = .next t → t.cfgIPeriod ≠ s.cfgIPeriod →
    s.seqState = .pwr ∧ s.nextDraw.ack = true ∧ t.cfgIPeriod = s.latOpnd ∧ t.rspStatus = 0

/-- In a step without reset, `POLL_CNT` changes only in `TRIG`, to 0, and in `POLL`, by one and only where the
status byte read is not ready for the channel of the command in progress, each with its transaction
answered `ok` (R28, R143 to R145, R147, R148). -/
def Obligations.PollCountChangesOnlyInTheMeasurement : Prop :=
  ∀ s t : State, s.resetIn.headD false = false → step s = .next t → t.pollCnt ≠ s.pollCnt →
    s.nextDraw.ack = true ∧
    ((s.seqState = .trig ∧ t.pollCnt = 0) ∨
     (s.seqState = .poll ∧ t.pollCnt = s.pollCnt + 1 ∧
      ∃ i, decode (packWord s.latOpnd 0 s.latMode s.latOp) = .ok i ∧
        ((i = .rdrangeSs ∧ s.nextDraw.b0.toNat % 8 ≠ 4) ∨
         (i = .rdalsSs ∧ ¬ AlsFieldReady s.params.alsReadyTest s.nextDraw.b0.toNat))))

/-- No step changes the parameters, and none changes a device address of `0x29`, reset or not; without reset
none changes any device address (R11, R22). That the parameters stand in State is log entry 3's. -/
def Obligations.DeviceAddressAndParametersNeverChange : Prop :=
  ∀ s t : State, step s = .next t →
    t.params = s.params ∧
    (s.cfgDevAddr = 0x29 → t.cfgDevAddr = s.cfgDevAddr) ∧
    (s.resetIn.headD false = false → t.cfgDevAddr = s.cfgDevAddr)

/-- R231's matrix for the commands: the statuses with which each can end. A step of a command that leaves the
sequencer in `IDLE` is its last and has written the response. -/
def Obligations.StatusesEachCommandCanEndWith : Prop :=
  ∀ (i : Instr) (s t : State), exec i s = .next t → t.seqState = .idle →
    (t.rspStatus = 0 ∧ i ≠ .rdrangeCont ∧ i ≠ .rdalsCont) ∨
    (t.rspStatus = 1 ∧ i ≠ .rdrangeCont ∧ i ≠ .rdalsCont) ∨
    (t.rspStatus = 2 ∧ s.params.strictParams = true ∧
      ((∃ x, i = .setgain x) ∨ (∃ ms, i = .setperiod ms))) ∨
    (t.rspStatus = 3 ∧ (∃ n, s.params.pollLimit = some n) ∧ (i = .rdrangeSs ∨ i = .rdalsSs)) ∨
    (t.rspStatus = 5 ∧ (i = .rdrangeCont ∨ i = .rdalsCont)) ∨
    (t.rspStatus = 6 ∧ i = .rdalsSs ∧ s.cfgIPeriod.toInt ≤ 0)

/-- Under strict parameters, and the invariant that holds `CFG_IPERIOD` in 1 to 256, no step of a command
sets the status `LUX_DOMAIN` (R213). -/
def Obligations.StrictParametersExcludeLuxDomain : Prop :=
  ∀ (i : Instr) (s t : State), s.Inv → s.params.strictParams = true → exec i s = .next t →
    s.rspStatus ≠ 6 → t.rspStatus ≠ 6

/-- A sequencer that waits in `POLL` is left at once by reset, without an event: the next one is the next
command's accept, and no transaction of the old command follows (R271, R284; log entry 7). -/
def Obligations.ResetLeavesAHangingPoll : Prop :=
  ∀ (s : State) (w : CmdWord) (rest : List CmdWord) (i : Instr),
    s.seqState = .poll → s.resetIn = [true] → s.hostCmds = w :: rest → decode w = .ok i →
    ∃ t u, step s = .next t ∧ t.trace = s.trace ∧ step t = .next u ∧
      ∃ evs, u.trace = s.trace ++ .accept w :: evs ∧ evs.countP Event.isBus = 0

/-- No step writes interrupt-status (R240, R280) or a result register, and a step writes a start register,
interleaved-enable or the gain register only with a value of its row (R56). That well-formed parameters give
the two OPEN addresses registers of their own is log entry 22's. -/
def Obligations.NoStepWritesAReadOnlyRegister : Prop :=
  ∀ s t : State, s.params.wf = true → step s = .next t →
    ∃ evs, t.trace = s.trace ++ evs ∧
      ∀ dev reg b ok, Event.busW dev reg b ok ∈ evs →
        (reg ≠ 0x004F ∧ reg ≠ 0x0050 ∧ reg ≠ 0x0051 ∧ reg ≠ 0x0062) ∧
        ((reg = 0x0018 ∨ reg = 0x0038) → b = 0x00 ∨ b = 0x01 ∨ b = 0x03) ∧
        (reg = 0x02A3 → b = 0x00 ∨ b = 0x01) ∧
        (reg = s.params.addrAlsGain → b.toNat ≤ 7)

/-- The binary32 reading of a pattern that the gain and lux statements rest on, from the pattern's number: a
NaN by R15's words, and the exact value in units of `2^-149`, an infinity above every finite value by log entry
19. -/
def Obligations.BinaryPatternsHaveTheirValues : Prop :=
  ∀ x : Word32,
    let e := x.toNat / 2 ^ 23 % 256
    let f := x.toNat % 2 ^ 23
    (f32IsNaN x = true ↔ e = 255 ∧ f ≠ 0) ∧
    f32Mag x = (if e = 0 then f else (2 ^ 23 + f) * 2 ^ (e - 1)) ∧
    f32Units x = (if 2 ^ 31 ≤ x.toNat then -(f32Mag x : Int) else (f32Mag x : Int))
end

