-- ==== Sys2Proof/Laws/Decode.lean ====
section
/-! SUPPORT. The fields of a packed command word (R71). -/

namespace Sys2Proof

/-- `a : b` as a number (R12). -/
theorem append_toNat {n m : Nat} (a : BitVec n) (b : BitVec m) :
    (a ++ b).toNat = a.toNat * 2 ^ m + b.toNat := by
  rw [BitVec.toNat_append, ← Nat.shiftLeft_add_eq_or_of_lt b.isLt, Nat.shiftLeft_eq]

section
variable (opnd : Word32) (rsv : BitVec 25) (mode : BitVec 3) (op : BitVec 4)

/-- A packed word as a number. -/
theorem packWord_toNat : (packWord opnd rsv mode op).toNat =
    opnd.toNat * 2 ^ 32 + rsv.toNat * 2 ^ 7 + mode.toNat * 2 ^ 4 + op.toNat := by
  change (opnd ++ (rsv ++ (mode ++ op)) : BitVec (32 + (25 + (3 + 4)))).toNat = _
  rw [append_toNat, append_toNat, append_toNat]
  omega

@[simp] theorem opField_packWord : opField (packWord opnd rsv mode op) = op := by
  apply BitVec.eq_of_toNat_eq
  have h1 := op.isLt
  simp only [opField, BitVec.extractLsb'_toNat, packWord_toNat, Nat.shiftRight_eq_div_pow]; omega

@[simp] theorem modeField_packWord : modeField (packWord opnd rsv mode op) = mode := by
  apply BitVec.eq_of_toNat_eq
  have h1 := op.isLt; have h2 := mode.isLt
  simp only [modeField, BitVec.extractLsb'_toNat, packWord_toNat, Nat.shiftRight_eq_div_pow]; omega

@[simp] theorem rsvField_packWord : rsvField (packWord opnd rsv mode op) = rsv := by
  apply BitVec.eq_of_toNat_eq
  have h1 := op.isLt; have h2 := mode.isLt; have h3 := rsv.isLt
  simp only [rsvField, BitVec.extractLsb'_toNat, packWord_toNat, Nat.shiftRight_eq_div_pow]; omega

@[simp] theorem opndField_packWord : opndField (packWord opnd rsv mode op) = opnd := by
  apply BitVec.eq_of_toNat_eq
  have h1 := op.isLt; have h2 := mode.isLt; have h3 := rsv.isLt; have h4 := opnd.isLt
  simp only [opndField, BitVec.extractLsb'_toNat, packWord_toNat, Nat.shiftRight_eq_div_pow]; omega

end

/-- The decoder on a word given by its fields. -/
theorem decode_packWord (opnd : Word32) (rsv : BitVec 25) (mode : BitVec 3) (op : BitVec 4) :
    decode (packWord opnd rsv mode op) =
      if rsv ≠ 0 then .error .reservedBits
      else if opcodeAssigned op = false then .error .reservedOpcode
      else if op ≠ 0x2 ∧ mode ≠ 0 then .error .modeBits
      else if (op ≠ 0x5 ∧ op ≠ 0x6) ∧ opnd ≠ 0 then .error .operandBits
      else if op = 0x2 ∧ mode = 7 then .error .reservedMode
      else decodeOp op mode opnd := by
  simp only [decode, opField_packWord, modeField_packWord, rsvField_packWord, opndField_packWord]

end Sys2Proof
end

