-- ==== Sys2Proof/Laws/State.lean ====
section
/-! SUPPORT. What each named operation leaves in each field of State, one lemma a field, true by rfl. -/

namespace Sys2Proof.Machine

/-! ### `goto` -/

section
variable (s : State) (q : SeqState)
@[simp] theorem goto_cfgDevAddr : (s.goto q).cfgDevAddr = s.cfgDevAddr := rfl
@[simp] theorem goto_cfgMode : (s.goto q).cfgMode = s.cfgMode := rfl
@[simp] theorem goto_cfgGainIdx : (s.goto q).cfgGainIdx = s.cfgGainIdx := rfl
@[simp] theorem goto_cfgIPeriod : (s.goto q).cfgIPeriod = s.cfgIPeriod := rfl
@[simp] theorem goto_seqState : (s.goto q).seqState = q := rfl
@[simp] theorem goto_latOp : (s.goto q).latOp = s.latOp := rfl
@[simp] theorem goto_latMode : (s.goto q).latMode = s.latMode := rfl
@[simp] theorem goto_latOpnd : (s.goto q).latOpnd = s.latOpnd := rfl
@[simp] theorem goto_latTier : (s.goto q).latTier = s.latTier := rfl
@[simp] theorem goto_pollCnt : (s.goto q).pollCnt = s.pollCnt := rfl
@[simp] theorem goto_rspStatus : (s.goto q).rspStatus = s.rspStatus := rfl
@[simp] theorem goto_rspResult : (s.goto q).rspResult = s.rspResult := rfl
@[simp] theorem goto_params : (s.goto q).params = s.params := rfl
@[simp] theorem goto_trace : (s.goto q).trace = s.trace := rfl
@[simp] theorem goto_hostCmds : (s.goto q).hostCmds = s.hostCmds := rfl
@[simp] theorem goto_resetIn : (s.goto q).resetIn = s.resetIn := rfl
@[simp] theorem goto_busAnswers : (s.goto q).busAnswers = s.busAnswers := rfl
@[simp] theorem goto_drawCount : (s.goto q).drawCount = s.drawCount := rfl
end

/-! ### `setCfgMode` -/

section
variable (s : State) (m : Mode)
@[simp] theorem setCfgMode_cfgDevAddr : (s.setCfgMode m).cfgDevAddr = s.cfgDevAddr := rfl
@[simp] theorem setCfgMode_cfgMode : (s.setCfgMode m).cfgMode = m.code := rfl
@[simp] theorem setCfgMode_cfgGainIdx : (s.setCfgMode m).cfgGainIdx = s.cfgGainIdx := rfl
@[simp] theorem setCfgMode_cfgIPeriod : (s.setCfgMode m).cfgIPeriod = s.cfgIPeriod := rfl
@[simp] theorem setCfgMode_seqState : (s.setCfgMode m).seqState = s.seqState := rfl
@[simp] theorem setCfgMode_latOp : (s.setCfgMode m).latOp = s.latOp := rfl
@[simp] theorem setCfgMode_latMode : (s.setCfgMode m).latMode = s.latMode := rfl
@[simp] theorem setCfgMode_latOpnd : (s.setCfgMode m).latOpnd = s.latOpnd := rfl
@[simp] theorem setCfgMode_latTier : (s.setCfgMode m).latTier = s.latTier := rfl
@[simp] theorem setCfgMode_pollCnt : (s.setCfgMode m).pollCnt = s.pollCnt := rfl
@[simp] theorem setCfgMode_rspStatus : (s.setCfgMode m).rspStatus = s.rspStatus := rfl
@[simp] theorem setCfgMode_rspResult : (s.setCfgMode m).rspResult = s.rspResult := rfl
@[simp] theorem setCfgMode_params : (s.setCfgMode m).params = s.params := rfl
@[simp] theorem setCfgMode_trace : (s.setCfgMode m).trace = s.trace := rfl
@[simp] theorem setCfgMode_hostCmds : (s.setCfgMode m).hostCmds = s.hostCmds := rfl
@[simp] theorem setCfgMode_resetIn : (s.setCfgMode m).resetIn = s.resetIn := rfl
@[simp] theorem setCfgMode_busAnswers : (s.setCfgMode m).busAnswers = s.busAnswers := rfl
@[simp] theorem setCfgMode_drawCount : (s.setCfgMode m).drawCount = s.drawCount := rfl
end

/-! ### `setCfgGainIdx` -/

section
variable (s : State) (i : TierIdx)
@[simp] theorem setCfgGainIdx_cfgDevAddr : (s.setCfgGainIdx i).cfgDevAddr = s.cfgDevAddr := rfl
@[simp] theorem setCfgGainIdx_cfgMode : (s.setCfgGainIdx i).cfgMode = s.cfgMode := rfl
@[simp] theorem setCfgGainIdx_cfgGainIdx : (s.setCfgGainIdx i).cfgGainIdx = i := rfl
@[simp] theorem setCfgGainIdx_cfgIPeriod : (s.setCfgGainIdx i).cfgIPeriod = s.cfgIPeriod := rfl
@[simp] theorem setCfgGainIdx_seqState : (s.setCfgGainIdx i).seqState = s.seqState := rfl
@[simp] theorem setCfgGainIdx_latOp : (s.setCfgGainIdx i).latOp = s.latOp := rfl
@[simp] theorem setCfgGainIdx_latMode : (s.setCfgGainIdx i).latMode = s.latMode := rfl
@[simp] theorem setCfgGainIdx_latOpnd : (s.setCfgGainIdx i).latOpnd = s.latOpnd := rfl
@[simp] theorem setCfgGainIdx_latTier : (s.setCfgGainIdx i).latTier = s.latTier := rfl
@[simp] theorem setCfgGainIdx_pollCnt : (s.setCfgGainIdx i).pollCnt = s.pollCnt := rfl
@[simp] theorem setCfgGainIdx_rspStatus : (s.setCfgGainIdx i).rspStatus = s.rspStatus := rfl
@[simp] theorem setCfgGainIdx_rspResult : (s.setCfgGainIdx i).rspResult = s.rspResult := rfl
@[simp] theorem setCfgGainIdx_params : (s.setCfgGainIdx i).params = s.params := rfl
@[simp] theorem setCfgGainIdx_trace : (s.setCfgGainIdx i).trace = s.trace := rfl
@[simp] theorem setCfgGainIdx_hostCmds : (s.setCfgGainIdx i).hostCmds = s.hostCmds := rfl
@[simp] theorem setCfgGainIdx_resetIn : (s.setCfgGainIdx i).resetIn = s.resetIn := rfl
@[simp] theorem setCfgGainIdx_busAnswers : (s.setCfgGainIdx i).busAnswers = s.busAnswers := rfl
@[simp] theorem setCfgGainIdx_drawCount : (s.setCfgGainIdx i).drawCount = s.drawCount := rfl
end

/-! ### `setCfgIPeriod` -/

section
variable (s : State) (ms : Word32)
@[simp] theorem setCfgIPeriod_cfgDevAddr : (s.setCfgIPeriod ms).cfgDevAddr = s.cfgDevAddr := rfl
@[simp] theorem setCfgIPeriod_cfgMode : (s.setCfgIPeriod ms).cfgMode = s.cfgMode := rfl
@[simp] theorem setCfgIPeriod_cfgGainIdx : (s.setCfgIPeriod ms).cfgGainIdx = s.cfgGainIdx := rfl
@[simp] theorem setCfgIPeriod_cfgIPeriod : (s.setCfgIPeriod ms).cfgIPeriod = ms := rfl
@[simp] theorem setCfgIPeriod_seqState : (s.setCfgIPeriod ms).seqState = s.seqState := rfl
@[simp] theorem setCfgIPeriod_latOp : (s.setCfgIPeriod ms).latOp = s.latOp := rfl
@[simp] theorem setCfgIPeriod_latMode : (s.setCfgIPeriod ms).latMode = s.latMode := rfl
@[simp] theorem setCfgIPeriod_latOpnd : (s.setCfgIPeriod ms).latOpnd = s.latOpnd := rfl
@[simp] theorem setCfgIPeriod_latTier : (s.setCfgIPeriod ms).latTier = s.latTier := rfl
@[simp] theorem setCfgIPeriod_pollCnt : (s.setCfgIPeriod ms).pollCnt = s.pollCnt := rfl
@[simp] theorem setCfgIPeriod_rspStatus : (s.setCfgIPeriod ms).rspStatus = s.rspStatus := rfl
@[simp] theorem setCfgIPeriod_rspResult : (s.setCfgIPeriod ms).rspResult = s.rspResult := rfl
@[simp] theorem setCfgIPeriod_params : (s.setCfgIPeriod ms).params = s.params := rfl
@[simp] theorem setCfgIPeriod_trace : (s.setCfgIPeriod ms).trace = s.trace := rfl
@[simp] theorem setCfgIPeriod_hostCmds : (s.setCfgIPeriod ms).hostCmds = s.hostCmds := rfl
@[simp] theorem setCfgIPeriod_resetIn : (s.setCfgIPeriod ms).resetIn = s.resetIn := rfl
@[simp] theorem setCfgIPeriod_busAnswers : (s.setCfgIPeriod ms).busAnswers = s.busAnswers := rfl
@[simp] theorem setCfgIPeriod_drawCount : (s.setCfgIPeriod ms).drawCount = s.drawCount := rfl
end

/-! ### `setLatTier` -/

section
variable (s : State) (i : TierIdx)
@[simp] theorem setLatTier_cfgDevAddr : (s.setLatTier i).cfgDevAddr = s.cfgDevAddr := rfl
@[simp] theorem setLatTier_cfgMode : (s.setLatTier i).cfgMode = s.cfgMode := rfl
@[simp] theorem setLatTier_cfgGainIdx : (s.setLatTier i).cfgGainIdx = s.cfgGainIdx := rfl
@[simp] theorem setLatTier_cfgIPeriod : (s.setLatTier i).cfgIPeriod = s.cfgIPeriod := rfl
@[simp] theorem setLatTier_seqState : (s.setLatTier i).seqState = s.seqState := rfl
@[simp] theorem setLatTier_latOp : (s.setLatTier i).latOp = s.latOp := rfl
@[simp] theorem setLatTier_latMode : (s.setLatTier i).latMode = s.latMode := rfl
@[simp] theorem setLatTier_latOpnd : (s.setLatTier i).latOpnd = s.latOpnd := rfl
@[simp] theorem setLatTier_latTier : (s.setLatTier i).latTier = i := rfl
@[simp] theorem setLatTier_pollCnt : (s.setLatTier i).pollCnt = s.pollCnt := rfl
@[simp] theorem setLatTier_rspStatus : (s.setLatTier i).rspStatus = s.rspStatus := rfl
@[simp] theorem setLatTier_rspResult : (s.setLatTier i).rspResult = s.rspResult := rfl
@[simp] theorem setLatTier_params : (s.setLatTier i).params = s.params := rfl
@[simp] theorem setLatTier_trace : (s.setLatTier i).trace = s.trace := rfl
@[simp] theorem setLatTier_hostCmds : (s.setLatTier i).hostCmds = s.hostCmds := rfl
@[simp] theorem setLatTier_resetIn : (s.setLatTier i).resetIn = s.resetIn := rfl
@[simp] theorem setLatTier_busAnswers : (s.setLatTier i).busAnswers = s.busAnswers := rfl
@[simp] theorem setLatTier_drawCount : (s.setLatTier i).drawCount = s.drawCount := rfl
end

/-! ### `setPollCnt` -/

section
variable (s : State) (n : Nat)
@[simp] theorem setPollCnt_cfgDevAddr : (s.setPollCnt n).cfgDevAddr = s.cfgDevAddr := rfl
@[simp] theorem setPollCnt_cfgMode : (s.setPollCnt n).cfgMode = s.cfgMode := rfl
@[simp] theorem setPollCnt_cfgGainIdx : (s.setPollCnt n).cfgGainIdx = s.cfgGainIdx := rfl
@[simp] theorem setPollCnt_cfgIPeriod : (s.setPollCnt n).cfgIPeriod = s.cfgIPeriod := rfl
@[simp] theorem setPollCnt_seqState : (s.setPollCnt n).seqState = s.seqState := rfl
@[simp] theorem setPollCnt_latOp : (s.setPollCnt n).latOp = s.latOp := rfl
@[simp] theorem setPollCnt_latMode : (s.setPollCnt n).latMode = s.latMode := rfl
@[simp] theorem setPollCnt_latOpnd : (s.setPollCnt n).latOpnd = s.latOpnd := rfl
@[simp] theorem setPollCnt_latTier : (s.setPollCnt n).latTier = s.latTier := rfl
@[simp] theorem setPollCnt_pollCnt : (s.setPollCnt n).pollCnt = n := rfl
@[simp] theorem setPollCnt_rspStatus : (s.setPollCnt n).rspStatus = s.rspStatus := rfl
@[simp] theorem setPollCnt_rspResult : (s.setPollCnt n).rspResult = s.rspResult := rfl
@[simp] theorem setPollCnt_params : (s.setPollCnt n).params = s.params := rfl
@[simp] theorem setPollCnt_trace : (s.setPollCnt n).trace = s.trace := rfl
@[simp] theorem setPollCnt_hostCmds : (s.setPollCnt n).hostCmds = s.hostCmds := rfl
@[simp] theorem setPollCnt_resetIn : (s.setPollCnt n).resetIn = s.resetIn := rfl
@[simp] theorem setPollCnt_busAnswers : (s.setPollCnt n).busAnswers = s.busAnswers := rfl
@[simp] theorem setPollCnt_drawCount : (s.setPollCnt n).drawCount = s.drawCount := rfl
end

/-! ### `latch` -/

section
variable (s : State) (i : Instr)
@[simp] theorem latch_cfgDevAddr : (s.latch i).cfgDevAddr = s.cfgDevAddr := rfl
@[simp] theorem latch_cfgMode : (s.latch i).cfgMode = s.cfgMode := rfl
@[simp] theorem latch_cfgGainIdx : (s.latch i).cfgGainIdx = s.cfgGainIdx := rfl
@[simp] theorem latch_cfgIPeriod : (s.latch i).cfgIPeriod = s.cfgIPeriod := rfl
@[simp] theorem latch_seqState : (s.latch i).seqState = s.seqState := rfl
@[simp] theorem latch_latOp : (s.latch i).latOp = i.op := rfl
@[simp] theorem latch_latMode : (s.latch i).latMode = i.modeBits := rfl
@[simp] theorem latch_latOpnd : (s.latch i).latOpnd = i.opnd := rfl
@[simp] theorem latch_latTier : (s.latch i).latTier = s.latTier := rfl
@[simp] theorem latch_pollCnt : (s.latch i).pollCnt = s.pollCnt := rfl
@[simp] theorem latch_rspStatus : (s.latch i).rspStatus = s.rspStatus := rfl
@[simp] theorem latch_rspResult : (s.latch i).rspResult = s.rspResult := rfl
@[simp] theorem latch_params : (s.latch i).params = s.params := rfl
@[simp] theorem latch_trace : (s.latch i).trace = s.trace := rfl
@[simp] theorem latch_hostCmds : (s.latch i).hostCmds = s.hostCmds := rfl
@[simp] theorem latch_resetIn : (s.latch i).resetIn = s.resetIn := rfl
@[simp] theorem latch_busAnswers : (s.latch i).busAnswers = s.busAnswers := rfl
@[simp] theorem latch_drawCount : (s.latch i).drawCount = s.drawCount := rfl
end

/-! ### `emit` -/

section
variable (s : State) (e : Event)
@[simp] theorem emit_cfgDevAddr : (s.emit e).cfgDevAddr = s.cfgDevAddr := rfl
@[simp] theorem emit_cfgMode : (s.emit e).cfgMode = s.cfgMode := rfl
@[simp] theorem emit_cfgGainIdx : (s.emit e).cfgGainIdx = s.cfgGainIdx := rfl
@[simp] theorem emit_cfgIPeriod : (s.emit e).cfgIPeriod = s.cfgIPeriod := rfl
@[simp] theorem emit_seqState : (s.emit e).seqState = s.seqState := rfl
@[simp] theorem emit_latOp : (s.emit e).latOp = s.latOp := rfl
@[simp] theorem emit_latMode : (s.emit e).latMode = s.latMode := rfl
@[simp] theorem emit_latOpnd : (s.emit e).latOpnd = s.latOpnd := rfl
@[simp] theorem emit_latTier : (s.emit e).latTier = s.latTier := rfl
@[simp] theorem emit_pollCnt : (s.emit e).pollCnt = s.pollCnt := rfl
@[simp] theorem emit_rspStatus : (s.emit e).rspStatus = s.rspStatus := rfl
@[simp] theorem emit_rspResult : (s.emit e).rspResult = s.rspResult := rfl
@[simp] theorem emit_params : (s.emit e).params = s.params := rfl
@[simp] theorem emit_trace : (s.emit e).trace = s.trace ++ [e] := rfl
@[simp] theorem emit_hostCmds : (s.emit e).hostCmds = s.hostCmds := rfl
@[simp] theorem emit_resetIn : (s.emit e).resetIn = s.resetIn := rfl
@[simp] theorem emit_busAnswers : (s.emit e).busAnswers = s.busAnswers := rfl
@[simp] theorem emit_drawCount : (s.emit e).drawCount = s.drawCount := rfl
end

/-! ### `respond` -/

section
variable (s : State) (st : Status) (r : Word32)
@[simp] theorem respond_cfgDevAddr : (s.respond st r).cfgDevAddr = s.cfgDevAddr := rfl
@[simp] theorem respond_cfgMode : (s.respond st r).cfgMode = s.cfgMode := rfl
@[simp] theorem respond_cfgGainIdx : (s.respond st r).cfgGainIdx = s.cfgGainIdx := rfl
@[simp] theorem respond_cfgIPeriod : (s.respond st r).cfgIPeriod = s.cfgIPeriod := rfl
@[simp] theorem respond_seqState : (s.respond st r).seqState = .idle := rfl
@[simp] theorem respond_latOp : (s.respond st r).latOp = s.latOp := rfl
@[simp] theorem respond_latMode : (s.respond st r).latMode = s.latMode := rfl
@[simp] theorem respond_latOpnd : (s.respond st r).latOpnd = s.latOpnd := rfl
@[simp] theorem respond_latTier : (s.respond st r).latTier = s.latTier := rfl
@[simp] theorem respond_pollCnt : (s.respond st r).pollCnt = s.pollCnt := rfl
@[simp] theorem respond_rspStatus : (s.respond st r).rspStatus = st.code := rfl
@[simp] theorem respond_rspResult : (s.respond st r).rspResult = r := rfl
@[simp] theorem respond_params : (s.respond st r).params = s.params := rfl
@[simp] theorem respond_trace : (s.respond st r).trace = s.trace ++ [.resp st.code r] := rfl
@[simp] theorem respond_hostCmds : (s.respond st r).hostCmds = s.hostCmds := rfl
@[simp] theorem respond_resetIn : (s.respond st r).resetIn = s.resetIn := rfl
@[simp] theorem respond_busAnswers : (s.respond st r).busAnswers = s.busAnswers := rfl
@[simp] theorem respond_drawCount : (s.respond st r).drawCount = s.drawCount := rfl
end

/-! ### `consumeDraw` -/

section
variable (s : State)
@[simp] theorem consumeDraw_cfgDevAddr : (s.consumeDraw).cfgDevAddr = s.cfgDevAddr := rfl
@[simp] theorem consumeDraw_cfgMode : (s.consumeDraw).cfgMode = s.cfgMode := rfl
@[simp] theorem consumeDraw_cfgGainIdx : (s.consumeDraw).cfgGainIdx = s.cfgGainIdx := rfl
@[simp] theorem consumeDraw_cfgIPeriod : (s.consumeDraw).cfgIPeriod = s.cfgIPeriod := rfl
@[simp] theorem consumeDraw_seqState : (s.consumeDraw).seqState = s.seqState := rfl
@[simp] theorem consumeDraw_latOp : (s.consumeDraw).latOp = s.latOp := rfl
@[simp] theorem consumeDraw_latMode : (s.consumeDraw).latMode = s.latMode := rfl
@[simp] theorem consumeDraw_latOpnd : (s.consumeDraw).latOpnd = s.latOpnd := rfl
@[simp] theorem consumeDraw_latTier : (s.consumeDraw).latTier = s.latTier := rfl
@[simp] theorem consumeDraw_pollCnt : (s.consumeDraw).pollCnt = s.pollCnt := rfl
@[simp] theorem consumeDraw_rspStatus : (s.consumeDraw).rspStatus = s.rspStatus := rfl
@[simp] theorem consumeDraw_rspResult : (s.consumeDraw).rspResult = s.rspResult := rfl
@[simp] theorem consumeDraw_params : (s.consumeDraw).params = s.params := rfl
@[simp] theorem consumeDraw_trace : (s.consumeDraw).trace = s.trace := rfl
@[simp] theorem consumeDraw_hostCmds : (s.consumeDraw).hostCmds = s.hostCmds := rfl
@[simp] theorem consumeDraw_resetIn : (s.consumeDraw).resetIn = s.resetIn := rfl
@[simp] theorem consumeDraw_busAnswers : (s.consumeDraw).busAnswers = s.busAnswers.tail := rfl
@[simp] theorem consumeDraw_drawCount : (s.consumeDraw).drawCount = s.drawCount + 1 := rfl
end

/-! ### `memWrite` -/

section
variable (s : State) (reg : RegAddr) (b : Byte)
@[simp] theorem memWrite_cfgDevAddr : (s.memWrite reg b).cfgDevAddr = s.cfgDevAddr := rfl
@[simp] theorem memWrite_cfgMode : (s.memWrite reg b).cfgMode = s.cfgMode := rfl
@[simp] theorem memWrite_cfgGainIdx : (s.memWrite reg b).cfgGainIdx = s.cfgGainIdx := rfl
@[simp] theorem memWrite_cfgIPeriod : (s.memWrite reg b).cfgIPeriod = s.cfgIPeriod := rfl
@[simp] theorem memWrite_seqState : (s.memWrite reg b).seqState = s.seqState := rfl
@[simp] theorem memWrite_latOp : (s.memWrite reg b).latOp = s.latOp := rfl
@[simp] theorem memWrite_latMode : (s.memWrite reg b).latMode = s.latMode := rfl
@[simp] theorem memWrite_latOpnd : (s.memWrite reg b).latOpnd = s.latOpnd := rfl
@[simp] theorem memWrite_latTier : (s.memWrite reg b).latTier = s.latTier := rfl
@[simp] theorem memWrite_pollCnt : (s.memWrite reg b).pollCnt = s.pollCnt := rfl
@[simp] theorem memWrite_rspStatus : (s.memWrite reg b).rspStatus = s.rspStatus := rfl
@[simp] theorem memWrite_rspResult : (s.memWrite reg b).rspResult = s.rspResult := rfl
@[simp] theorem memWrite_params : (s.memWrite reg b).params = s.params := rfl
@[simp] theorem memWrite_trace : (s.memWrite reg b).trace = s.trace ++ [.busW s.cfgDevAddr reg b s.nextDraw.ack] := rfl
@[simp] theorem memWrite_hostCmds : (s.memWrite reg b).hostCmds = s.hostCmds := rfl
@[simp] theorem memWrite_resetIn : (s.memWrite reg b).resetIn = s.resetIn := rfl
@[simp] theorem memWrite_busAnswers : (s.memWrite reg b).busAnswers = s.busAnswers.tail := rfl
@[simp] theorem memWrite_drawCount : (s.memWrite reg b).drawCount = s.drawCount + 1 := rfl
end

/-! ### `memRead` -/

section
variable (s : State) (reg : RegAddr) (n : Nat)
@[simp] theorem memRead_cfgDevAddr : (s.memRead reg n).cfgDevAddr = s.cfgDevAddr := rfl
@[simp] theorem memRead_cfgMode : (s.memRead reg n).cfgMode = s.cfgMode := rfl
@[simp] theorem memRead_cfgGainIdx : (s.memRead reg n).cfgGainIdx = s.cfgGainIdx := rfl
@[simp] theorem memRead_cfgIPeriod : (s.memRead reg n).cfgIPeriod = s.cfgIPeriod := rfl
@[simp] theorem memRead_seqState : (s.memRead reg n).seqState = s.seqState := rfl
@[simp] theorem memRead_latOp : (s.memRead reg n).latOp = s.latOp := rfl
@[simp] theorem memRead_latMode : (s.memRead reg n).latMode = s.latMode := rfl
@[simp] theorem memRead_latOpnd : (s.memRead reg n).latOpnd = s.latOpnd := rfl
@[simp] theorem memRead_latTier : (s.memRead reg n).latTier = s.latTier := rfl
@[simp] theorem memRead_pollCnt : (s.memRead reg n).pollCnt = s.pollCnt := rfl
@[simp] theorem memRead_rspStatus : (s.memRead reg n).rspStatus = s.rspStatus := rfl
@[simp] theorem memRead_rspResult : (s.memRead reg n).rspResult = s.rspResult := rfl
@[simp] theorem memRead_params : (s.memRead reg n).params = s.params := rfl
@[simp] theorem memRead_trace : (s.memRead reg n).trace = s.trace ++ [.busR s.cfgDevAddr reg n (busReadAnswer s.nextDraw n)] := rfl
@[simp] theorem memRead_hostCmds : (s.memRead reg n).hostCmds = s.hostCmds := rfl
@[simp] theorem memRead_resetIn : (s.memRead reg n).resetIn = s.resetIn := rfl
@[simp] theorem memRead_busAnswers : (s.memRead reg n).busAnswers = s.busAnswers.tail := rfl
@[simp] theorem memRead_drawCount : (s.memRead reg n).drawCount = s.drawCount + 1 := rfl
end

/-! ### `assertReset` -/

section
variable (s : State)
@[simp] theorem assertReset_cfgDevAddr : (s.assertReset).cfgDevAddr = 0x29 := rfl
@[simp] theorem assertReset_cfgMode : (s.assertReset).cfgMode = 0 := rfl
@[simp] theorem assertReset_cfgGainIdx : (s.assertReset).cfgGainIdx = 0 := rfl
@[simp] theorem assertReset_cfgIPeriod : (s.assertReset).cfgIPeriod = 100 := rfl
@[simp] theorem assertReset_seqState : (s.assertReset).seqState = .idle := rfl
@[simp] theorem assertReset_latOp : (s.assertReset).latOp = 0 := rfl
@[simp] theorem assertReset_latMode : (s.assertReset).latMode = 0 := rfl
@[simp] theorem assertReset_latOpnd : (s.assertReset).latOpnd = 0 := rfl
@[simp] theorem assertReset_latTier : (s.assertReset).latTier = 0 := rfl
@[simp] theorem assertReset_pollCnt : (s.assertReset).pollCnt = 0 := rfl
@[simp] theorem assertReset_rspStatus : (s.assertReset).rspStatus = 0 := rfl
@[simp] theorem assertReset_rspResult : (s.assertReset).rspResult = 0 := rfl
@[simp] theorem assertReset_params : (s.assertReset).params = s.params := rfl
@[simp] theorem assertReset_trace : (s.assertReset).trace = s.trace := rfl
@[simp] theorem assertReset_hostCmds : (s.assertReset).hostCmds = s.hostCmds := rfl
@[simp] theorem assertReset_resetIn : (s.assertReset).resetIn = s.resetIn := rfl
@[simp] theorem assertReset_busAnswers : (s.assertReset).busAnswers = s.busAnswers := rfl
@[simp] theorem assertReset_drawCount : (s.assertReset).drawCount = s.drawCount := rfl
end

/-! ### `resetTick` -/

section
variable (s : State)
@[simp] theorem resetTick_cfgDevAddr : (s.resetTick).cfgDevAddr = s.cfgDevAddr := rfl
@[simp] theorem resetTick_cfgMode : (s.resetTick).cfgMode = s.cfgMode := rfl
@[simp] theorem resetTick_cfgGainIdx : (s.resetTick).cfgGainIdx = s.cfgGainIdx := rfl
@[simp] theorem resetTick_cfgIPeriod : (s.resetTick).cfgIPeriod = s.cfgIPeriod := rfl
@[simp] theorem resetTick_seqState : (s.resetTick).seqState = s.seqState := rfl
@[simp] theorem resetTick_latOp : (s.resetTick).latOp = s.latOp := rfl
@[simp] theorem resetTick_latMode : (s.resetTick).latMode = s.latMode := rfl
@[simp] theorem resetTick_latOpnd : (s.resetTick).latOpnd = s.latOpnd := rfl
@[simp] theorem resetTick_latTier : (s.resetTick).latTier = s.latTier := rfl
@[simp] theorem resetTick_pollCnt : (s.resetTick).pollCnt = s.pollCnt := rfl
@[simp] theorem resetTick_rspStatus : (s.resetTick).rspStatus = s.rspStatus := rfl
@[simp] theorem resetTick_rspResult : (s.resetTick).rspResult = s.rspResult := rfl
@[simp] theorem resetTick_params : (s.resetTick).params = s.params := rfl
@[simp] theorem resetTick_trace : (s.resetTick).trace = s.trace := rfl
@[simp] theorem resetTick_hostCmds : (s.resetTick).hostCmds = s.hostCmds := rfl
@[simp] theorem resetTick_resetIn : (s.resetTick).resetIn = s.resetIn.tail := rfl
@[simp] theorem resetTick_busAnswers : (s.resetTick).busAnswers = s.busAnswers := rfl
@[simp] theorem resetTick_drawCount : (s.resetTick).drawCount = s.drawCount := rfl
end

/-! ### `takeCommand` -/

section
variable (s : State) (w : CmdWord) (rest : List CmdWord)
@[simp] theorem takeCommand_cfgDevAddr : (s.takeCommand w rest).cfgDevAddr = s.cfgDevAddr := rfl
@[simp] theorem takeCommand_cfgMode : (s.takeCommand w rest).cfgMode = s.cfgMode := rfl
@[simp] theorem takeCommand_cfgGainIdx : (s.takeCommand w rest).cfgGainIdx = s.cfgGainIdx := rfl
@[simp] theorem takeCommand_cfgIPeriod : (s.takeCommand w rest).cfgIPeriod = s.cfgIPeriod := rfl
@[simp] theorem takeCommand_seqState : (s.takeCommand w rest).seqState = s.seqState := rfl
@[simp] theorem takeCommand_latOp : (s.takeCommand w rest).latOp = s.latOp := rfl
@[simp] theorem takeCommand_latMode : (s.takeCommand w rest).latMode = s.latMode := rfl
@[simp] theorem takeCommand_latOpnd : (s.takeCommand w rest).latOpnd = s.latOpnd := rfl
@[simp] theorem takeCommand_latTier : (s.takeCommand w rest).latTier = s.latTier := rfl
@[simp] theorem takeCommand_pollCnt : (s.takeCommand w rest).pollCnt = s.pollCnt := rfl
@[simp] theorem takeCommand_rspStatus : (s.takeCommand w rest).rspStatus = s.rspStatus := rfl
@[simp] theorem takeCommand_rspResult : (s.takeCommand w rest).rspResult = s.rspResult := rfl
@[simp] theorem takeCommand_params : (s.takeCommand w rest).params = s.params := rfl
@[simp] theorem takeCommand_trace : (s.takeCommand w rest).trace = s.trace ++ [.accept w] := rfl
@[simp] theorem takeCommand_hostCmds : (s.takeCommand w rest).hostCmds = rest := rfl
@[simp] theorem takeCommand_resetIn : (s.takeCommand w rest).resetIn = s.resetIn := rfl
@[simp] theorem takeCommand_busAnswers : (s.takeCommand w rest).busAnswers = s.busAnswers := rfl
@[simp] theorem takeCommand_drawCount : (s.takeCommand w rest).drawCount = s.drawCount := rfl
end

/-! ### `submitNext` -/

section
variable (s : State) (w : CmdWord)
@[simp] theorem submitNext_cfgDevAddr : (s.submitNext w).cfgDevAddr = s.cfgDevAddr := rfl
@[simp] theorem submitNext_cfgMode : (s.submitNext w).cfgMode = s.cfgMode := rfl
@[simp] theorem submitNext_cfgGainIdx : (s.submitNext w).cfgGainIdx = s.cfgGainIdx := rfl
@[simp] theorem submitNext_cfgIPeriod : (s.submitNext w).cfgIPeriod = s.cfgIPeriod := rfl
@[simp] theorem submitNext_seqState : (s.submitNext w).seqState = .idle := rfl
@[simp] theorem submitNext_latOp : (s.submitNext w).latOp = s.latOp := rfl
@[simp] theorem submitNext_latMode : (s.submitNext w).latMode = s.latMode := rfl
@[simp] theorem submitNext_latOpnd : (s.submitNext w).latOpnd = s.latOpnd := rfl
@[simp] theorem submitNext_latTier : (s.submitNext w).latTier = s.latTier := rfl
@[simp] theorem submitNext_pollCnt : (s.submitNext w).pollCnt = s.pollCnt := rfl
@[simp] theorem submitNext_rspStatus : (s.submitNext w).rspStatus = s.rspStatus := rfl
@[simp] theorem submitNext_rspResult : (s.submitNext w).rspResult = s.rspResult := rfl
@[simp] theorem submitNext_params : (s.submitNext w).params = s.params := rfl
@[simp] theorem submitNext_trace : (s.submitNext w).trace = s.trace := rfl
@[simp] theorem submitNext_hostCmds : (s.submitNext w).hostCmds = w :: s.hostCmds := rfl
@[simp] theorem submitNext_resetIn : (s.submitNext w).resetIn = if s.resetAsserted then false :: s.resetIn.tail else s.resetIn := rfl
@[simp] theorem submitNext_busAnswers : (s.submitNext w).busAnswers = s.busAnswers := rfl
@[simp] theorem submitNext_drawCount : (s.submitNext w).drawCount = s.drawCount := rfl
end

/-! ### `afterBus` -/

section
variable (s : State) (evs : List Event)
@[simp] theorem afterBus_cfgDevAddr : (s.afterBus evs).cfgDevAddr = s.cfgDevAddr := rfl
@[simp] theorem afterBus_cfgMode : (s.afterBus evs).cfgMode = s.cfgMode := rfl
@[simp] theorem afterBus_cfgGainIdx : (s.afterBus evs).cfgGainIdx = s.cfgGainIdx := rfl
@[simp] theorem afterBus_cfgIPeriod : (s.afterBus evs).cfgIPeriod = s.cfgIPeriod := rfl
@[simp] theorem afterBus_seqState : (s.afterBus evs).seqState = s.seqState := rfl
@[simp] theorem afterBus_latOp : (s.afterBus evs).latOp = s.latOp := rfl
@[simp] theorem afterBus_latMode : (s.afterBus evs).latMode = s.latMode := rfl
@[simp] theorem afterBus_latOpnd : (s.afterBus evs).latOpnd = s.latOpnd := rfl
@[simp] theorem afterBus_latTier : (s.afterBus evs).latTier = s.latTier := rfl
@[simp] theorem afterBus_pollCnt : (s.afterBus evs).pollCnt = s.pollCnt := rfl
@[simp] theorem afterBus_rspStatus : (s.afterBus evs).rspStatus = s.rspStatus := rfl
@[simp] theorem afterBus_rspResult : (s.afterBus evs).rspResult = s.rspResult := rfl
@[simp] theorem afterBus_params : (s.afterBus evs).params = s.params := rfl
@[simp] theorem afterBus_trace : (s.afterBus evs).trace = s.trace ++ evs := rfl
@[simp] theorem afterBus_hostCmds : (s.afterBus evs).hostCmds = s.hostCmds := rfl
@[simp] theorem afterBus_resetIn : (s.afterBus evs).resetIn = s.resetIn := rfl
@[simp] theorem afterBus_busAnswers : (s.afterBus evs).busAnswers = s.busAnswers.tail := rfl
@[simp] theorem afterBus_drawCount : (s.afterBus evs).drawCount = s.drawCount + 1 := rfl
end

/-! ### Responses in terms of `respond` -/

@[simp] theorem respondOk_eq (s : State) (r : Word32) : s.respondOk r = s.respond .ok r := rfl
@[simp] theorem raise_eq (s : State) (st : Status) : s.raise st = s.respond st 0 := rfl

end Sys2Proof.Machine
end

