-- ==== Sys2Proof/Laws/Ops.lean ====
section
/-! SUPPORT. What each shared operation can do: the bus steps and the steps built from them. -/

namespace Sys2Proof.Machine

/-! ### The oracle -/

@[simp] theorem nextDraw_cons {s : State} {d : BusDraw} {r : List BusDraw} (h : s.busAnswers = d :: r) :
    s.nextDraw = d := by simp [State.nextDraw, h]

@[simp] theorem nextDraw_nil {s : State} (h : s.busAnswers = []) :
    s.nextDraw = Config.freeDraw s.drawCount := by simp [State.nextDraw, h]

/-- The next answer depends on nothing but the oracle's fields. -/
theorem nextDraw_congr {s t : State} (ha : s.busAnswers = t.busAnswers) (hc : s.drawCount = t.drawCount) :
    s.nextDraw = t.nextDraw := by simp [State.nextDraw, ha, hc]

@[simp] theorem nextDraw_resetTick (s : State) : s.resetTick.nextDraw = s.nextDraw := rfl

/-- A write transaction as the event list of `afterBus`. -/
theorem memWrite_eq_afterBus (s : State) (reg : RegAddr) (b : Byte) :
    s.memWrite reg b = s.afterBus [.busW s.cfgDevAddr reg b s.nextDraw.ack] := rfl

/-- A read transaction as the event list of `afterBus`. -/
theorem memRead_eq_afterBus (s : State) (reg : RegAddr) (n : Nat) :
    s.memRead reg n = s.afterBus [.busR s.cfgDevAddr reg n (busReadAnswer s.nextDraw n)] := rfl

theorem memWrite_ok {s : State} (reg : RegAddr) (b : Byte) (h : s.nextDraw.ack = true) :
    s.memWrite reg b = s.afterBus [.busW s.cfgDevAddr reg b true] := by rw [memWrite_eq_afterBus, h]

theorem memWrite_fail {s : State} (reg : RegAddr) (b : Byte) (h : s.nextDraw.ack = false) :
    s.memWrite reg b = s.afterBus [.busW s.cfgDevAddr reg b false] := by rw [memWrite_eq_afterBus, h]

theorem memRead_one {s : State} (reg : RegAddr) (h : s.nextDraw.ack = true) :
    s.memRead reg 1 = s.afterBus [.busR s.cfgDevAddr reg 1 (some [s.nextDraw.b0])] := by
  simp [memRead_eq_afterBus, busReadAnswer, h]

theorem memRead_two {s : State} (reg : RegAddr) (h : s.nextDraw.ack = true) :
    s.memRead reg 2 = s.afterBus [.busR s.cfgDevAddr reg 2 (some [s.nextDraw.b0, s.nextDraw.b1])] := by
  simp [memRead_eq_afterBus, busReadAnswer, h]

theorem memRead_fail {s : State} (reg : RegAddr) (n : Nat) (h : s.nextDraw.ack = false) :
    s.memRead reg n = s.afterBus [.busR s.cfgDevAddr reg n none] := by
  simp [memRead_eq_afterBus, busReadAnswer, h]

/-- A response after a transaction, in one record. -/
theorem respond_afterBus (s : State) (evs : List Event) (st : Status) (r : Word32) :
    (s.afterBus evs).respond st r =
      { s.afterBus (evs ++ [.resp st.code r]) with
        rspStatus := st.code, rspResult := r, seqState := .idle } := by
  simp [State.respond, State.afterBus]

/-- A read's answer holds exactly the bytes asked for (R52). -/
theorem busReadAnswer_length {d : BusDraw} {n : Nat} {bs : List Byte} (hn : n ≤ 2)
    (h : busReadAnswer d n = some bs) : bs.length = n := by
  unfold busReadAnswer at h
  split at h
  · injection h with h
    simp [← h, hn]
  · cases h

/-! ### Bus steps -/

section
variable {reg : RegAddr} {b : Byte} {s t : State}

theorem writeStep_ok {done : State → State} (h : s.nextDraw.ack = true) :
    writeStep reg b done s = .next (done (s.memWrite reg b)) := by simp [writeStep, h]

theorem writeStep_fail {done : State → State} (h : s.nextDraw.ack = false) :
    writeStep reg b done s = .next ((s.memWrite reg b).respond .transportFailure 0) := by
  simp [writeStep, h]

/-- All that a write step can do. -/
theorem writeStep_cases {done : State → State} (h : writeStep reg b done s = .next t) :
    (s.nextDraw.ack = true ∧ t = done (s.memWrite reg b)) ∨
    (s.nextDraw.ack = false ∧ t = (s.memWrite reg b).respond .transportFailure 0) := by
  cases ha : s.nextDraw.ack
  · rw [writeStep_fail ha] at h; injection h with h; exact .inr ⟨rfl, h.symm⟩
  · rw [writeStep_ok ha] at h; injection h with h; exact .inl ⟨rfl, h.symm⟩

theorem readByteStep_ok {done : Byte → State → State} (h : s.nextDraw.ack = true) :
    readByteStep reg done s = .next (done s.nextDraw.b0 (s.memRead reg 1)) := by simp [readByteStep, h]

theorem readByteStep_fail {done : Byte → State → State} (h : s.nextDraw.ack = false) :
    readByteStep reg done s = .next ((s.memRead reg 1).respond .transportFailure 0) := by
  simp [readByteStep, h]

/-- All that a one-byte read step can do. -/
theorem readByteStep_cases {done : Byte → State → State} (h : readByteStep reg done s = .next t) :
    (s.nextDraw.ack = true ∧ t = done s.nextDraw.b0 (s.memRead reg 1)) ∨
    (s.nextDraw.ack = false ∧ t = (s.memRead reg 1).respond .transportFailure 0) := by
  cases ha : s.nextDraw.ack
  · rw [readByteStep_fail ha] at h; injection h with h; exact .inr ⟨rfl, h.symm⟩
  · rw [readByteStep_ok ha] at h; injection h with h; exact .inl ⟨rfl, h.symm⟩

theorem readPairStep_ok {done : Byte → Byte → State → State} (h : s.nextDraw.ack = true) :
    readPairStep reg done s = .next (done s.nextDraw.b0 s.nextDraw.b1 (s.memRead reg 2)) := by
  simp [readPairStep, h]

theorem readPairStep_fail {done : Byte → Byte → State → State} (h : s.nextDraw.ack = false) :
    readPairStep reg done s = .next ((s.memRead reg 2).respond .transportFailure 0) := by
  simp [readPairStep, h]

/-- All that a two-byte read step can do. -/
theorem readPairStep_cases {done : Byte → Byte → State → State} (h : readPairStep reg done s = .next t) :
    (s.nextDraw.ack = true ∧ t = done s.nextDraw.b0 s.nextDraw.b1 (s.memRead reg 2)) ∨
    (s.nextDraw.ack = false ∧ t = (s.memRead reg 2).respond .transportFailure 0) := by
  cases ha : s.nextDraw.ack
  · rw [readPairStep_fail ha] at h; injection h with h; exact .inr ⟨rfl, h.symm⟩
  · rw [readPairStep_ok ha] at h; injection h with h; exact .inl ⟨rfl, h.symm⟩

end

/-! ### Steps of the commands -/

/-- All that follows an answered clear sequence of a `SETM`. -/
theorem afterClear_cases (t : Terminal) (s : State) :
    (t = none ∧ afterClear t s = s.respond .ok 0) ∨ (∃ w, t = some w ∧ afterClear t s = s.goto .mwr) := by
  cases t with
  | none => exact .inl ⟨rfl, rfl⟩
  | some w => exact .inr ⟨w, rfl, rfl⟩

/-- All that an answered status read can do (R145, R146). -/
theorem afterStatus_cases (ch : Channel) (b : Byte) (s : State) :
    (channelReady s.params ch b = true ∧ afterStatus ch b s = s.goto .res) ∨
    (channelReady s.params ch b = false ∧ s.params.pollLimit = some (s.pollCnt + 1) ∧
      afterStatus ch b s = (s.setPollCnt (s.pollCnt + 1)).respond .timeout 0) ∨
    (channelReady s.params ch b = false ∧ s.params.pollLimit ≠ some (s.pollCnt + 1) ∧
      afterStatus ch b s = (s.setPollCnt (s.pollCnt + 1)).goto .poll) := by
  unfold afterStatus pollLimitReached
  cases hr : channelReady s.params ch b
  · by_cases hl : s.params.pollLimit = some (s.pollCnt + 1)
    · exact .inr (.inl ⟨rfl, hl, by simp [hl]⟩)
    · exact .inr (.inr ⟨rfl, hl, by simp [hl]⟩)
  · exact .inl ⟨rfl, by simp⟩

/-- All that an answered ALS result read can do (R151, R161). -/
theorem afterAlsResult_cases (b0 b1 : Byte) (s : State) :
    (s.cfgIPeriod.toInt ≤ 0 ∧ afterAlsResult b0 b1 s = s.respond .luxDomain 0) ∨
    (0 < s.cfgIPeriod.toInt ∧ afterAlsResult b0 b1 s =
      s.respond .ok (luxValue s.params (rawOfBytes b0 b1) s.cfgGainIdx s.cfgIPeriod)) := by
  unfold afterAlsResult luxOutOfDomain
  by_cases h : s.cfgIPeriod.toInt ≤ 0
  · exact .inl ⟨h, by simp [h]⟩
  · exact .inr ⟨by omega, by simp [h]⟩

/-- All that the accept step of `SETG` can do after the latches (R200, R201). -/
theorem acceptGain_cases (s : State) :
    (s.params.strictParams = true ∧ gainRejected s.latOpnd = true ∧
      acceptGain s = s.respond .invalidParameter 0) ∨
    ((s.params.strictParams = true → gainRejected s.latOpnd = false) ∧
      acceptGain s = (s.setLatTier (gainSelect s.latOpnd)).goto .gwr) := by
  unfold acceptGain
  cases h1 : s.params.strictParams <;> cases h2 : gainRejected s.latOpnd <;> simp

/-- All that the accept step of `SETP` can do after the latches (R211, R212). -/
theorem acceptPeriod_cases (s : State) :
    (s.params.strictParams = true ∧ periodRejected s.latOpnd = true ∧
      acceptPeriod s = s.respond .invalidParameter 0) ∨
    ((s.params.strictParams = true → periodRejected s.latOpnd = false) ∧ acceptPeriod s = s.goto .pwr) := by
  unfold acceptPeriod
  cases h1 : s.params.strictParams <;> cases h2 : periodRejected s.latOpnd <;> simp

end Sys2Proof.Machine
end

