-- ==== Sys2Proof/Laws/Params.lean ====
section
/-! SUPPORT. What well-formed parameters give, and that the default parameters are well formed. -/

namespace Sys2Proof

/-- The two OPEN addresses are no address of another register of R56 and differ. -/
theorem Config.addrsDistinct_iff (gain period : RegAddr) :
    Config.addrsDistinct gain period = true ↔
      gain ∉ Config.fixedAddrs ∧ period ∉ Config.fixedAddrs ∧ gain ≠ period := by
  simp [Config.addrsDistinct, and_assoc]

/-- Well-formedness by its parts. -/
theorem Params.wf_iff (p : Params) :
    p.wf = true ↔ p.pollLimitWf = true ∧ p.addrAlsGain ∉ Config.fixedAddrs ∧
      p.addrAlsIPeriod ∉ Config.fixedAddrs ∧ p.addrAlsGain ≠ p.addrAlsIPeriod := by
  rw [Params.wf, Bool.and_eq_true, Config.addrsDistinct_iff]

/-- A poll limit of well-formed parameters is at least 1. -/
theorem Params.one_le_pollLimit {p : Params} {n : Nat} (h : p.wf = true) (hn : p.pollLimit = some n) :
    1 ≤ n := by
  simpa [Params.pollLimitWf, hn] using (p.wf_iff.mp h).1

/-- The default parameters are well formed, whatever the two OPEN addresses are. -/
theorem Params.default_wf : Params.default.wf = true := by
  rw [Params.wf, Bool.and_eq_true]
  exact ⟨rfl, Config.addrs.2⟩

end Sys2Proof
end

