-- ==== Sys2Proof/Laws/PerInstr.lean ====
section
/-! SUPPORT. The family `EncodedFields`: the fields of every command's word are the command's (R71). -/

namespace Sys2Proof.Laws.EncodedFields

/-- The four fields of `encode i`, the reserved one 0. -/
def Statement (i : Instr) : Prop :=
  opField (encode i) = i.op ∧ modeField (encode i) = i.modeBits ∧
    rsvField (encode i) = 0 ∧ opndField (encode i) = i.opnd

theorem of_pack (i : Instr) : Statement i := by simp [Statement, encode]

theorem clrmodes : Statement .clrmodes := of_pack _
theorem setmodeRss : Statement .setmodeRss := of_pack _
theorem setmodeAss : Statement .setmodeAss := of_pack _
theorem setmodeAcont : Statement .setmodeAcont := of_pack _
theorem setmodeRcont : Statement .setmodeRcont := of_pack _
theorem setmodeRcontAss : Statement .setmodeRcontAss := of_pack _
theorem setmodeRssAcont : Statement .setmodeRssAcont := of_pack _
theorem setmodeIlv : Statement .setmodeIlv := of_pack _
theorem rdrangeSs : Statement .rdrangeSs := of_pack _
theorem rdalsSs : Statement .rdalsSs := of_pack _
theorem setgain (requested : Word32) : Statement (.setgain requested) := of_pack _
theorem setperiod (ms : Word32) : Statement (.setperiod ms) := of_pack _
theorem rdrangeCont : Statement .rdrangeCont := of_pack _
theorem rdalsCont : Statement .rdalsCont := of_pack _

end Sys2Proof.Laws.EncodedFields
end

