-- ==== Sys2Proof/Laws/Step.lean ====
section
/-! SUPPORT. What one step can do: reset, wait, accept, or the next micro-step of the command in progress. -/

namespace Sys2Proof.Machine

section
variable {s t : State}

theorem step_reset (h : s.resetAsserted = true) : step s = .next s.resetTick.assertReset := by
  simp only [step, h, if_true]

theorem step_noReset (h : s.resetAsserted = false) : step s = sequencerStep s.resetTick := by
  simp only [step, h]; rfl

theorem sequencerStep_wait (hq : s.seqState = .idle) (hc : s.hostCmds = []) :
    sequencerStep s = .next s := by simp only [sequencerStep, hq, hc]

theorem sequencerStep_accept {w : CmdWord} {rest : List CmdWord} (hq : s.seqState = .idle)
    (hc : s.hostCmds = w :: rest) : sequencerStep s = acceptStep w (s.takeCommand w rest) := by
  simp only [sequencerStep, hq, hc]

theorem sequencerStep_busy {i : Instr} (hq : s.seqState ≠ .idle) (hd : decode s.latchedWord = .ok i) :
    sequencerStep s = exec i s := by
  cases h : s.seqState <;> first | exact absurd h hq | simp only [sequencerStep, h, hd]

theorem sequencerStep_stuck {e : Illegal} (hq : s.seqState ≠ .idle) (hd : decode s.latchedWord = .error e) :
    sequencerStep s = .fault .noTransition := by
  cases h : s.seqState <;> first | exact absurd h hq | simp only [sequencerStep, h, hd]

@[simp] theorem latchedWord_resetTick (s : State) : s.resetTick.latchedWord = s.latchedWord := rfl

/-- All that a step without reset can do. -/
theorem sequencerStep_cases (h : sequencerStep s = .next t) :
    (s.seqState = .idle ∧ s.hostCmds = [] ∧ t = s) ∨
    (∃ w rest e, s.seqState = .idle ∧ s.hostCmds = w :: rest ∧ decode w = .error e ∧
      t = (s.takeCommand w rest).respond .illegalCommand 0) ∨
    (∃ w rest i, s.seqState = .idle ∧ s.hostCmds = w :: rest ∧ decode w = .ok i ∧
      exec i (s.takeCommand w rest) = .next t) ∨
    (∃ i, s.seqState ≠ .idle ∧ decode s.latchedWord = .ok i ∧ exec i s = .next t) := by
  by_cases hq : s.seqState = .idle
  · cases hc : s.hostCmds with
    | nil => rw [sequencerStep_wait hq hc] at h; injection h with h; exact .inl ⟨hq, rfl, h.symm⟩
    | cons w rest =>
      rw [sequencerStep_accept hq hc, acceptStep] at h
      cases hd : decode w with
      | error e => rw [hd] at h; injection h with h; exact .inr (.inl ⟨w, rest, e, hq, rfl, hd, h.symm⟩)
      | ok i => rw [hd] at h; exact .inr (.inr (.inl ⟨w, rest, i, hq, rfl, hd, h⟩))
  · cases hd : decode s.latchedWord with
    | ok i => rw [sequencerStep_busy hq hd] at h; exact .inr (.inr (.inr ⟨i, hq, rfl, h⟩))
    | error e =>
      cases hs : s.seqState <;> first | exact absurd hs hq | (simp only [sequencerStep, hs, hd] at h; cases h)

/-- All that a step can do: the step without reset is one of the four cases of `sequencerStep_cases`. -/
theorem step_cases (h : step s = .next t) :
    (s.resetAsserted = true ∧ t = s.resetTick.assertReset) ∨
    (s.resetAsserted = false ∧ sequencerStep s.resetTick = .next t) := by
  cases hr : s.resetAsserted
  · rw [step_noReset hr] at h; exact .inr ⟨rfl, h⟩
  · rw [step_reset hr] at h; injection h with h; exact .inl ⟨rfl, h.symm⟩

/-! ### Runs -/

/-- One more step at the front of a run, for any machine. -/
theorem run_unfold (M : Host.Core) (n : Nat) (s : M.State) :
    Host.Core.run M (n + 1) s = match M.step s with
      | .next s' => Host.Core.run M n s'
      | .fault r => .fault r
      | .refused r => .refused r := rfl

/-- A run goes on from the state its first step gives. -/
theorem run_step {n : Nat} (h : step s = .next t) :
    Host.Core.run core (n + 1) s = Host.Core.run core n t := by
  have hc : core.step s = .next t := h
  rw [run_unfold core n s, hc]

/-- A run of `m + n` steps is a run of `n` after a run of `m`. -/
theorem run_add {m n : Nat} {s t : State} (h : Host.Core.run core m s = .next t) :
    Host.Core.run core (m + n) s = Host.Core.run core n t := by
  induction m generalizing s with
  | zero => rw [Nat.zero_add]; cases h; rfl
  | succ m ih =>
    rw [Nat.succ_add]
    cases hs : step s with
    | next u => rw [run_step hs] at h ⊢; exact ih h
    | fault r =>
      have hc : core.step s = .fault r := hs
      rw [run_unfold core m s, hc] at h; cases h
    | refused r =>
      have hc : core.step s = .refused r := hs
      rw [run_unfold core m s, hc] at h; cases h

end

end Sys2Proof.Machine
end

