-- ==== Sys2Proof/Tests/Slice0.lean ====
section
/-! SUPPORT. Tests against the spec's own words and vectors (30_encoding.md; 95_test_vectors.md), and a
witness for the hypotheses of every statement that has some. -/

namespace Sys2Proof.Tests

open Sys2Proof Sys2Proof.Machine

/-! ## Small states -/

/-- Parameters with the defaults of R11 and two addresses in place of the OPEN ones. -/
def params0 : Params where
  pollLimit := none
  strictParams := false
  alsReadyTest := .fieldEq
  luxFn := .luxRef
  addrAlsGain := 0x1111
  addrAlsIPeriod := 0x2222

/-- An answer `ok`, of a write or of a read with these bytes. -/
def okBytes (b0 b1 : Byte) : BusDraw := ⟨true, b0, b1⟩

/-- An answer `ok` of a write. -/
def okDraw : BusDraw := okBytes 0 0

/-- An answer `fail`. -/
def failDraw : BusDraw := ⟨false, 0, 0⟩

/-- The reset state in a given control state, with the bus's coming answers. -/
def stateAt (q : SeqState) (answers : List BusDraw) : State :=
  { State.reset with params := params0, seqState := q, busAnswers := answers }

/-- The latches of a command in progress. -/
def holding (i : Instr) (s : State) : State := s.latch i

/-- One field of the next state of a step. -/
def after {α : Type} (f : State → α) (o : Host.Outcome State Fault Refusal) : Option α :=
  match o with
  | .next s => some (f s)
  | .fault _ => none
  | .refused _ => none

/-- `P_STRICT_PARAMS = true`. -/
def strict (s : State) : State := { s with params := { s.params with strictParams := true } }

/-- `P_POLL_LIMIT = n`. -/
def limited (n : Nat) (s : State) : State := { s with params := { s.params with pollLimit := some n } }

/-! ## WellFormed and the decoder's refusals -/

theorem test_wf_default_parameters : params0.wf = true := by decide

/-- `P_POLL_LIMIT = 0` is not a value of R11. -/
theorem test_wf_refuses_poll_limit_zero : ({ params0 with pollLimit := some 0 } : Params).wf = false := by
  decide

/-- Interrupt-status is never written (R240, R280). -/
theorem test_wf_refuses_gain_at_interrupt_status :
    ({ params0 with addrAlsGain := 0x004F } : Params).wf = false := by decide

/-- ALS-result's second byte is only read (R56). -/
theorem test_wf_refuses_period_at_als_result :
    ({ params0 with addrAlsIPeriod := 0x0051 } : Params).wf = false := by decide

theorem test_wf_refuses_equal_addresses :
    ({ params0 with addrAlsIPeriod := 0x1111 } : Params).wf = false := by decide

theorem test_refuses_reserved_bits : decode 0x0000000000000082 = .error .reservedBits := by decide

theorem test_refuses_reserved_bit_31 : decode 0x0000000080000001 = .error .reservedBits := by decide

theorem test_refuses_opcode_zero : decode 0x0000000000000000 = .error .reservedOpcode := by decide

theorem test_refuses_opcode_nine : decode 0x0000000000000009 = .error .reservedOpcode := by decide

theorem test_refuses_mode_bits : decode 0x0000000000000025 = .error .modeBits := by decide

theorem test_refuses_operand_bits : decode 0x8000000000000003 = .error .operandBits := by decide

theorem test_refuses_reserved_mode : decode 0x0000000000000072 = .error .reservedMode := by decide

/-! ## Decoding, one written-out word a command (R72, R75) -/

theorem test_decode_clrmodes : decode 0x0000000000000001 = .ok .clrmodes := by decide
theorem test_decode_setmode_rss : decode 0x0000000000000002 = .ok .setmodeRss := by decide
theorem test_decode_setmode_ass : decode 0x0000000000000012 = .ok .setmodeAss := by decide
theorem test_decode_setmode_acont : decode 0x0000000000000022 = .ok .setmodeAcont := by decide
theorem test_decode_setmode_rcont : decode 0x0000000000000032 = .ok .setmodeRcont := by decide
theorem test_decode_setmode_rcont_ass : decode 0x0000000000000042 = .ok .setmodeRcontAss := by decide
theorem test_decode_setmode_rss_acont : decode 0x0000000000000052 = .ok .setmodeRssAcont := by decide
theorem test_decode_setmode_ilv : decode 0x0000000000000062 = .ok .setmodeIlv := by decide
theorem test_decode_rdrange_ss : decode 0x0000000000000003 = .ok .rdrangeSs := by decide
theorem test_decode_rdals_ss : decode 0x0000000000000004 = .ok .rdalsSs := by decide
theorem test_decode_setgain : decode 0x4000000000000005 = .ok (.setgain 0x40000000) := by decide
theorem test_decode_setperiod : decode 0xFFFFFFFF00000006 = .ok (.setperiod 0xFFFFFFFF) := by decide
theorem test_decode_rdrange_cont : decode 0x0000000000000007 = .ok .rdrangeCont := by decide
theorem test_decode_rdals_cont : decode 0x0000000000000008 = .ok .rdalsCont := by decide

theorem test_decode_table_word : decodeTableWord 64 0x62 = some .setmodeIlv := by decide

theorem test_fetch_word_runs_the_command :
    after (fun s => (s.cfgMode, s.seqState, s.trace)) (step (State.reset.withFetchWord 64 0x32)) =
      some (3, .clr0, [.accept 0x32]) := by decide

/-- From reset with nothing placed, the sequencer waits (R272; log entry 6). -/
theorem test_reset_waits : after (fun s => (s.seqState, s.trace)) (step State.reset) = some (.idle, []) := by
  decide

/-! ## Assembly (R83) -/

theorem test_assemble_setgain :
    (assembleLine "setgain 2.0".toList).map encode = some 0x4000000000000005 := by decide +kernel

theorem test_assemble_setgain_fraction :
    assembleLine "setgain 1.67".toList = some (.setgain 0x3FD5C28F) := by decide +kernel

/-- Table G's `-0.0`. -/
theorem test_assemble_negative_zero :
    assembleLine "setgain -0.0".toList = some (.setgain 0x80000000) := by decide +kernel

theorem test_assemble_setmode :
    (assembleLine "setmode ilv".toList).map encode = some 0x0000000000000062 := by decide +kernel

theorem test_assemble_setperiod :
    (assembleLine "setperiod 50 ; milliseconds".toList).map encode = some 0x0000003200000006 := by
  decide +kernel

theorem test_assemble_refuses_unknown_mode : assembleLine "setmode fast".toList = none := by decide +kernel

/-! ## Conversions (95_test_vectors.md tables G, P, S, L) -/

theorem test_gain_boundary : gainSelect 0x3FD5C28F = 2 ∧ gainSelect 0x3FD5C290 = 3 := by decide

theorem test_gain_extremes :
    gainSelect 0x42200000 = 7 ∧ gainSelect 0x42200001 = 0 ∧ gainSelect 0xFF800000 = 0 ∧
      gainSelect 0x7FC00000 = 0 := by decide

theorem test_gain_result : gainResult 3 = 0x1B ∧ gainResult 7 = 0x3F ∧ tierByte 6 = 0x00 := by decide

theorem test_period_byte :
    periodByte 50 = 0x31 ∧ periodByte 0 = 0xFF ∧ periodByte 300 = 0x2B ∧ periodByte 0x80000000 = 0xFF := by
  decide

theorem test_status_bytes :
    rangeReady 0x2C = true ∧ rangeReady 0x07 = false ∧ alsReady .fieldEq 0x24 = true ∧
      alsReady .fieldEq 0x28 = false ∧ alsReady .bit2 0x28 = true ∧ alsReady .bit2 0x1C = false := by decide

/-- Table L rows 4 and 9, inexact quotients. -/
theorem test_lux_rounds : luxRef 1 0 100 = 0x3EA3D70A ∧ luxRef 1000 2 100 = 0x433F9DE4 := by decide +kernel

/-- Table L rows 6 and 8, the two ends of the range at periods up to 256. -/
theorem test_lux_ends : luxRef 65535 0 1 = 0x49FFFF00 ∧ luxRef 1 7 256 = 0x3B4CCCCD := by decide +kernel

/-! ## Single steps -/

/-- The terminal write of `SETM rss_acont` (table M). -/
theorem test_setmode_rss_acont_terminal :
    after (fun s => (s.seqState, s.trace)) (exec .setmodeRssAcont (stateAt .mwr [okDraw])) =
      some (.idle, [.busW 0x29 0x0038 0x03 true, .resp 0 0]) := by decide

/-- `SETM ass` has no terminal write (vector M3). -/
theorem test_setmode_ass_ends_after_clear :
    after (fun s => (s.seqState, s.trace)) (exec .setmodeAss (stateAt .clr2 [okDraw])) =
      some (.idle, [.busW 0x29 0x02A3 0x00 true, .resp 0 0]) := by decide

/-- Vector M5: the second write of `CLRM` fails, `CFG_MODE` stays. -/
theorem test_clrmodes_fails_at_write_two :
    after (fun s => (s.cfgMode, s.seqState, s.trace, s.rspStatus))
        (exec .clrmodes { stateAt .clr1 [failDraw] with cfgMode := 5 }) =
      some (5, .idle, [.busW 0x29 0x0038 0x00 false, .resp 1 0], 1) := by decide

/-- Vector G4: a failed gain write leaves the stored tier. -/
theorem test_setgain_failed_write :
    after (fun s => (s.cfgGainIdx, s.trace))
        (exec (.setgain 0x40000000) { stateAt .gwr [failDraw] with latTier := 3, cfgGainIdx := 5 }) =
      some (5, [.busW 0x29 0x1111 0x03 false, .resp 1 0]) := by decide

/-- Vector G1: the strict check rejects 41.0 before any transaction. -/
theorem test_setgain_strict_rejects :
    after (fun s => (s.cfgGainIdx, s.seqState, s.trace))
        (exec (.setgain 0x42240000) (strict (stateAt .idle [okDraw]))) =
      some (0, .idle, [.resp 2 0]) := by decide

/-- Table P: 300 is stored whole and written as `0x2B`. -/
theorem test_setperiod_wraps :
    after (fun s => (s.cfgIPeriod, s.trace))
        (exec (.setperiod 300) (holding (.setperiod 300) (stateAt .pwr [okDraw]))) =
      some (300, [.busW 0x29 0x2222 0x2B true, .resp 0 0]) := by decide

/-- Vector S9: the third not-ready status read of a limit of 3 is the last. -/
theorem test_poll_limit :
    after (fun s => (s.pollCnt, s.rspStatus, s.trace))
        (exec .rdrangeSs (limited 3 { stateAt .poll [okDraw] with pollCnt := 2 })) =
      some (3, 3, [.busR 0x29 0x004F 1 (some [0x00]), .resp 3 0]) := by decide

/-- Vector S10: a failed status read is a transport failure, not a timeout. -/
theorem test_failed_status_read :
    after (fun s => (s.pollCnt, s.rspStatus))
        (exec .rdrangeSs (limited 2 { stateAt .poll [failDraw] with pollCnt := 1 })) =
      some (1, 1) := by decide

/-- Vector E10: raw 100 at the reset configuration is 32.0 lux. -/
theorem test_als_result :
    after (fun s => (s.rspResult, s.trace)) (exec .rdalsSs (stateAt .res [okBytes 0x00 0x64])) =
      some (0x42000000, [.busR 0x29 0x0050 2 (some [0x00, 0x64]), .resp 0 0x42000000]) := by decide +kernel

/-- Another `P_LUX_FN` answers its own value, whatever it is (log entry 5). -/
theorem test_als_result_other_lux :
    after (fun s => s.rspResult)
        (exec .rdalsSs { stateAt .res [okBytes 0x00 0x64] with params := { params0 with luxFn := .other } }) =
      some (Config.otherLuxFn 100 0 100) := rfl

/-- Program 3: a stored period of 0 answers `LUX_DOMAIN`. -/
theorem test_als_result_lux_domain :
    after (fun s => (s.rspStatus, s.rspResult))
        (exec .rdalsSs { stateAt .res [okBytes 0x12 0x34] with cfgIPeriod := 0 }) =
      some (6, 0) := by decide

/-- Reset in the middle of a poll: no event, the registers of R34 (vector Z2). -/
theorem test_reset_abandons :
    after (fun s => (s.seqState, s.cfgMode, s.cfgIPeriod, s.trace))
        (step { holding .rdalsSs (stateAt .poll [okDraw]) with
          cfgMode := 1, cfgIPeriod := 50, resetIn := [true], trace := [.accept 4] }) =
      some (.idle, 0, 100, [.accept 4]) := by decide

/-- A control state the command has no row for stops (R30). -/
theorem test_no_transition : after (fun s => s.seqState) (exec .clrmodes (stateAt .gwr [okDraw])) = none := by
  decide

/-! ## Witnesses: the hypotheses of each statement, met together -/

/-- A `SETM acont` waiting for its second write, from the mode 3 of vector M4. -/
def midSetMode : State :=
  { holding .setmodeAcont (stateAt .clr1 [okDraw, okDraw, okDraw]) with
    cfgMode := 2
    trace := [.accept 0x22, .busW 0x29 0x0018 0x00 true]
    drawCount := 1 }

/-- An `RDRS` in its poll, the second status read to come, under a poll limit of 3 and strict checks. -/
def midPoll : State :=
  strict (limited 3 { holding .rdrangeSs (stateAt .poll [okBytes 0x04 0]) with pollCnt := 1 })

theorem witness_EncodeGivesBackEveryDecodedWord : decode 0x4224000000000005 = .ok (.setgain 0x42240000) := by
  decide

theorem witness_StepRunsTheAcceptedCommand :
    let s : State := { stateAt .idle [] with hostCmds := [0x62, 0x1], resetIn := [false, true] }
    s.seqState = .idle ∧ s.resetIn.headD false = false ∧ s.hostCmds = 0x62 :: [0x1] ∧
      decode 0x62 = .ok .setmodeIlv := by decide

theorem witness_StepRunsTheLatchedCommand :
    midSetMode.seqState ≠ .idle ∧ midSetMode.resetIn.headD false = false ∧
      decode (packWord midSetMode.latOpnd 0 midSetMode.latMode midSetMode.latOp) = .ok .setmodeAcont := by
  decide

theorem witness_IllegalWordAnswersIllegalCommand :
    let s : State := { stateAt .idle [] with hostCmds := [0x72] }
    s.seqState = .idle ∧ s.resetIn.headD false = false ∧ s.hostCmds = 0x72 :: [] ∧
      ∀ i, decode 0x72 ≠ .ok i := by
  refine ⟨rfl, rfl, rfl, fun i h => ?_⟩
  rw [test_refuses_reserved_mode] at h
  cases h

theorem witness_IdleWithoutACommandWaits :
    (stateAt .idle []).seqState = .idle ∧ (stateAt .idle []).resetIn.headD false = false ∧
      (stateAt .idle []).hostCmds = [] := by decide

theorem witness_ResetPutsEveryRegisterInItsResetState :
    ({ midPoll with resetIn := [true, true] } : State).resetIn.headD false = true := by decide

theorem witness_AcceptStepLatchesTheCommand : (stateAt .idle [okDraw]).seqState = .idle := by decide

theorem witness_EveryStepIssuesItsOneTransaction :
    Instr.standsIn .setmodeAcont midSetMode.seqState = true ∧
      Instr.standsIn .rdrangeSs midPoll.seqState = true ∧
      Instr.standsIn (.setgain 0x3F800000) (stateAt .gwr [okDraw]).seqState = true := by decide

theorem witness_FailedTransactionEndsTheCommand :
    Instr.standsIn (.setperiod 5) (stateAt .pwr [failDraw]).seqState = true ∧
      (stateAt .pwr [failDraw]).nextDraw.ack = false := by decide

theorem witness_BytesOfAFailedAnswerAreNotUsed :
    midPoll.seqState ≠ .idle ∧ midPoll.resetIn.headD false = false ∧
      (⟨false, 0x04, 0⟩ : BusDraw).ack = false ∧ failDraw.ack = false := by decide

/-- The clauses of the step statements of `CLRM`, `SETM`, `RDRS` and `RDAS` that ask for an answer `ok`. -/
theorem witness_answered_steps :
    ∀ q ∈ [SeqState.clr0, .clr1, .clr2, .mwr, .trig, .poll, .res, .gwr, .pwr],
      (stateAt q [okDraw]).seqState = q ∧ (stateAt q [okDraw]).nextDraw.ack = true := by decide

/-- `SetModeSteps`: a mode without and a mode with a terminal write. -/
theorem witness_SetModeSteps :
    (Instr.setmodeAss, (1 : BitVec 3), none) ∈ setModeTable ∧
      (Instr.setmodeIlv, (6 : BitVec 3), some ((0x02A3 : RegAddr), (0x01 : Byte))) ∈ setModeTable := by decide

/-- `ReadRangeSteps` in `POLL`: ready; not ready below the limit, without one; not ready at the limit. -/
theorem witness_ReadRangeSteps :
    (stateAt .poll [okBytes 0xFC 0]).nextDraw.b0.toNat % 8 = 4 ∧
      (stateAt .poll [okBytes 0x20 0]).nextDraw.b0.toNat % 8 ≠ 4 ∧
      (stateAt .poll []).params.pollLimit ≠ some ((stateAt .poll []).pollCnt + 1) ∧
      (limited 2 (stateAt .poll [])).params.pollLimit ≠ some ((limited 2 (stateAt .poll [])).pollCnt + 1) ∧
      (limited 1 (stateAt .poll [])).params.pollLimit = some ((limited 1 (stateAt .poll [])).pollCnt + 1) := by
  decide

/-- `ReadAlsSteps` in `POLL` and `RES`: the bytes on which the readings of R148 differ, and the periods
around 0. -/
theorem witness_ReadAlsSteps :
    AlsFieldReady .fieldEq 0x27 ∧ ¬ AlsFieldReady .fieldEq 0x28 ∧ AlsFieldReady .bit2 0x28 ∧
      ¬ AlsFieldReady .bit2 0x1F ∧ 0 < (1#32).toInt ∧ (0#32).toInt ≤ 0 ∧ (0x80000000#32).toInt ≤ 0 := by
  refine ⟨.inl (by decide), ?_, .inr (by decide), ?_, by decide, by decide, by decide⟩ <;>
    simp [AlsFieldReady]

/-- `SetGainSteps`: 40.0 and a subnormal pass the strict check; 40.0's successor and a NaN do not. -/
theorem witness_SetGainSteps :
    (f32IsNaN 0x42200000 = false ∧ f32Units 0x42200000 ≤ 40 * 2 ^ 149) ∧
      (f32IsNaN 0x00000001 = false ∧ f32Units 0x00000001 ≤ 40 * 2 ^ 149) ∧
      40 * 2 ^ 149 < f32Units 0x42200001 ∧ f32IsNaN 0xFFC00000 = true ∧
      (strict (stateAt .idle [])).params.strictParams = true := by decide

/-- `SetPeriodSteps`: the ends of the valid domain and their neighbours. -/
theorem witness_SetPeriodSteps :
    (1 ≤ (1#32).toInt ∧ (1#32).toInt ≤ 256) ∧ (1 ≤ (256#32).toInt ∧ (256#32).toInt ≤ 256) ∧
      ¬ (1 ≤ (0#32).toInt ∧ (0#32).toInt ≤ 256) ∧ ¬ (1 ≤ (257#32).toInt ∧ (257#32).toInt ≤ 256) ∧
      ¬ (1 ≤ (0xFFFFFFFF#32).toInt ∧ (0xFFFFFFFF#32).toInt ≤ 256) := by decide

theorem witness_ClrmodesRunsToItsResponse :
    let s : State := { stateAt .idle [okDraw, okDraw, okDraw] with hostCmds := [0x1], cfgMode := 6 }
    s.seqState = .idle ∧ s.resetIn = [] ∧ s.hostCmds = 0x0000000000000001 :: [] ∧
      s.busAnswers = okDraw :: okDraw :: okDraw :: [] ∧ okDraw.ack = true := by decide

/-- The runs of `SETM`: a start state for a single-shot and for another mode. -/
theorem witness_SetModeRuns :
    let s : State := { stateAt .idle [okDraw, okDraw, okDraw, okDraw] with hostCmds := [0x2, 0x32] }
    s.seqState = .idle ∧ s.resetIn = [] ∧ s.hostCmds = 0x2 :: [0x32] ∧
      s.busAnswers = okDraw :: okDraw :: okDraw :: [okDraw] ∧
      s.busAnswers = okDraw :: okDraw :: okDraw :: okDraw :: [] ∧ okDraw.ack = true := by decide

/-- A `SETM ilv` that answers `OK` in its last step. -/
theorem witness_LastWrittenModeRegistersByMode :
    let s : State := { stateAt .idle [okDraw, okDraw, okDraw, okDraw] with hostCmds := [0x62] }
    ∃ t : State, s.seqState = .idle ∧ s.resetIn = [] ∧ s.hostCmds = 0x62 :: [] ∧
      Host.Core.run core 5 s = .next t ∧ t.trace.getLast? = some (.resp 0 0) ∧ t.hostCmds = [] :=
  ⟨_, rfl, rfl, rfl, rfl, rfl, rfl⟩

/-- Vector M4: the first and the last write of `SETM acont` fail. -/
theorem witness_FailedWriteStopsASetModeWhereItFails :
    let s (oks : List BusDraw) : State :=
      { stateAt .idle (oks ++ failDraw :: [okDraw]) with hostCmds := [0x22], cfgMode := 3 }
    ∀ oks ∈ [[], [okDraw, okDraw, okDraw]],
      (s oks).seqState = .idle ∧ (s oks).resetIn = [] ∧ (s oks).hostCmds = 0x22 :: [] ∧
        (s oks).busAnswers = oks ++ failDraw :: [okDraw] ∧ (∀ d ∈ oks, d.ack = true) ∧
        failDraw.ack = false ∧ oks.length ≤ 3 := by decide

/-- Two status reads that are not ready, then one that is, then the result (vector S9). -/
theorem witness_ReadRangeRunsToItsResponse :
    let waits := [okBytes 0x00 0, okBytes 0x20 0]
    let s : State := limited 3 { stateAt .idle
        (okDraw :: okDraw :: okDraw :: okDraw :: (waits ++ okBytes 0x04 0 :: okBytes 0x10 0 :: [])) with
      hostCmds := [0x3] }
    s.seqState = .idle ∧ s.resetIn = [] ∧ s.hostCmds = 0x3 :: [] ∧
      s.busAnswers = okDraw :: okDraw :: okDraw :: okDraw ::
        (waits ++ okBytes 0x04 0 :: okBytes 0x10 0 :: []) ∧
      (∀ x ∈ waits, x.ack = true ∧ x.b0.toNat % 8 ≠ 4) ∧ (okBytes 0x04 0).b0.toNat % 8 = 4 ∧
      (∀ n, s.params.pollLimit = some n → waits.length < n) := by
  refine ⟨rfl, rfl, rfl, rfl, by decide, by decide, fun n h => ?_⟩
  cases h
  decide

/-- Program 1's `RDAS`, and program 3's with its period of 0. -/
theorem witness_ReadAlsRunsToItsResponse :
    let waits := [okBytes 0x00 0]
    let s (period : Word32) : State := { stateAt .idle
        (okDraw :: okDraw :: okDraw :: okDraw :: (waits ++ okBytes 0x20 0 :: okBytes 0x01 0x00 :: [])) with
      hostCmds := [0x4], cfgIPeriod := period }
    (s 50).seqState = .idle ∧ (s 50).resetIn = [] ∧ (s 50).hostCmds = 0x4 :: [] ∧
      (s 50).busAnswers = okDraw :: okDraw :: okDraw :: okDraw ::
        (waits ++ okBytes 0x20 0 :: okBytes 0x01 0x00 :: []) ∧
      (∀ x ∈ waits, x.ack = true ∧ ¬ AlsFieldReady (s 50).params.alsReadyTest x.b0.toNat) ∧
      AlsFieldReady (s 50).params.alsReadyTest (okBytes 0x20 0).b0.toNat ∧
      (∀ n, (s 50).params.pollLimit = some n → waits.length < n) ∧
      0 < (s 50).cfgIPeriod.toInt ∧ (s 0).cfgIPeriod.toInt ≤ 0 := by
  refine ⟨rfl, rfl, rfl, rfl, fun x h => ?_, .inl (by decide), fun n h => (by cases h), by decide, by decide⟩
  simp only [List.mem_singleton] at h
  subst h
  exact ⟨rfl, by simp [AlsFieldReady, okBytes]⟩

/-- Vector S8: a limit of 1. -/
theorem witness_PollLimitEndsAReadRangeWithTimeout :
    let waits := [okBytes 0x00 0]
    let s : State := limited 1 { stateAt .idle (okDraw :: okDraw :: okDraw :: okDraw :: (waits ++ [])) with
      hostCmds := [0x3] }
    s.seqState = .idle ∧ s.resetIn = [] ∧ s.hostCmds = 0x3 :: [] ∧
      s.busAnswers = okDraw :: okDraw :: okDraw :: okDraw :: (waits ++ []) ∧
      (∀ x ∈ waits, x.ack = true ∧ x.b0.toNat % 8 ≠ 4) ∧ s.params.pollLimit = some waits.length ∧
      1 ≤ waits.length := by decide

/-- Vector S11. -/
theorem witness_UnboundedPollNeverAnswers :
    let waits := [okBytes 0x00 0, okBytes 0x03 0]
    let s : State := holding .rdrangeSs (stateAt .poll (waits ++ [okDraw]))
    s.seqState = .poll ∧ s.resetIn = [] ∧ s.params.pollLimit = none ∧
      decode (packWord s.latOpnd 0 s.latMode s.latOp) = .ok .rdrangeSs ∧
      s.busAnswers = waits ++ [okDraw] ∧ ∀ x ∈ waits, x.ack = true ∧ x.b0.toNat % 8 ≠ 4 := by decide

/-- The same for `RDAS`, a range field that is ready among them. -/
theorem witness_UnboundedPollNeverAnswers_als :
    let waits := [okBytes 0x04 0, okBytes 0x28 0]
    let s : State := holding .rdalsSs (stateAt .poll waits)
    decode (packWord s.latOpnd 0 s.latMode s.latOp) = .ok .rdalsSs ∧
      ∀ x ∈ waits, x.ack = true ∧ ¬ AlsFieldReady s.params.alsReadyTest x.b0.toNat := by
  refine ⟨by decide, fun x h => ?_⟩
  simp only [List.mem_cons, List.not_mem_nil, or_false] at h
  rcases h with rfl | rfl <;> exact ⟨rfl, by simp [AlsFieldReady, okBytes, holding, stateAt, params0]⟩

theorem witness_SetGainRunsToItsResponse :
    let s : State := strict { stateAt .idle [okDraw] with hostCmds := [encode (.setgain 0x42200000)] }
    s.seqState = .idle ∧ s.resetIn = [] ∧ s.hostCmds = encode (.setgain 0x42200000) :: [] ∧
      s.busAnswers = okDraw :: [] ∧ okDraw.ack = true ∧
      (s.params.strictParams = true → f32IsNaN 0x42200000 = false ∧ f32Units 0x42200000 ≤ 40 * 2 ^ 149) := by
  decide

theorem witness_SetPeriodRunsToItsResponse :
    let s : State := { stateAt .idle [okDraw] with hostCmds := [encode (.setperiod 300)] }
    s.seqState = .idle ∧ s.resetIn = [] ∧ s.hostCmds = encode (.setperiod 300) :: [] ∧
      s.busAnswers = okDraw :: [] ∧ okDraw.ack = true ∧
      (s.params.strictParams = true → 1 ≤ (300#32).toInt ∧ (300#32).toInt ≤ 256) := by decide

/-- One operand at the upper end of each selection interval, and two that fall back. -/
theorem witness_GainSelectionIntervals :
    ∀ x ∈ [(0x3F800000 : Word32), 0x3FA00000, 0x3FD5C28F, 0x40200000, 0x40A00000, 0x41200000, 0x41A00000,
        0x42200000, 0x42200001, 0x7F800000], f32IsNaN x = false := by
  simp [f32IsNaN, f32Exp, f32Frac]

theorem witness_NaNSelectsTheFallbackTier :
    ∀ x ∈ [(0x7F800001 : Word32), 0xFFC00000],
      x.toNat / 2 ^ 23 % 256 = 255 ∧ x.toNat % 2 ^ 23 ≠ 0 := by
  simp

/-- The two operands around the exact 1.67. -/
theorem witness_BreakpointsAgreeWithDecimalLiterals :
    f32IsNaN 0x3FD5C28F = false ∧ f32IsNaN 0x3FD5C290 = false := by decide

/-- The ends of the lux domain, and a finite pattern to compare with. -/
theorem witness_LuxRefOnItsDomain :
    1 ≤ (1#32).toInt ∧ 1 ≤ (0x7FFFFFFF#32).toInt ∧ (0x7F7FFFFF#32).toNat < 0x7F800000 ∧
      (0 : BitVec 16).toNat ≤ (0xFFFF : BitVec 16).toNat := by decide

/-- 32 lux, raw 100 at tier 1.0x and 100 ms, is representable. -/
theorem witness_LuxRefIsExactWhereRepresentable :
    f32Mag 0x42000000 * ((tierFraction 0).1 * (100#32).toNat) =
      32 * (100 : BitVec 16).toNat * (tierFraction 0).2 * 2 ^ 149 := by decide

/-- The invariant holds in the middle of an `RDRS`, under a poll limit and strict checks. -/
theorem witness_Inv : midPoll.Inv where
  device := rfl
  mode := by decide
  params := rfl
  progress := fun _ => ⟨.rdrangeSs, by decide, rfl, fun m h => (by cases h; rfl)⟩
  gain := fun h => (by cases h)
  period := fun h => (by cases h)
  strictPeriod := fun _ => (by decide)
  pollCount := fun n h => (by cases h; exact ⟨by decide, fun _ => by decide⟩)
  response := ⟨by decide, fun h => absurd rfl h⟩
  events := fun e h => (by cases h)

/-- From that state a step answers a next state, as `EveryStepKeepsTheInvariant` asks. -/
theorem witness_EveryStepKeepsTheInvariant : ∃ t, step midPoll = .next t := ⟨_, rfl⟩

/-- `Balanced` in the middle of a command. -/
theorem witness_EveryAcceptedCommandIsAnsweredOnce :
    midSetMode.Balanced ∧ midSetMode.resetIn.headD false = false ∧ ∃ t, step midSetMode = .next t :=
  ⟨by unfold State.Balanced; decide, rfl, _, rfl⟩

/-- A step without reset that answers a next state. -/
theorem witness_ModeChangesOnlyAtAccept :
    let s : State := { stateAt .idle [] with hostCmds := [0x62] }
    s.resetIn.headD false = false ∧ ∃ t, step s = .next t ∧ t.cfgMode = 6 := ⟨rfl, _, rfl, rfl⟩

theorem witness_GainIndexChangesOnlyAfterItsWrite :
    let s : State := { holding (.setgain 0x40000000) (stateAt .gwr [okDraw]) with latTier := 3 }
    s.resetIn.headD false = false ∧ ∃ t, step s = .next t ∧ t.cfgGainIdx = 3 ∧ s.cfgGainIdx = 0 :=
  ⟨rfl, _, rfl, rfl, rfl⟩

theorem witness_PeriodChangesOnlyAfterItsWrite :
    let s : State := holding (.setperiod 50) (stateAt .pwr [okDraw])
    s.resetIn.headD false = false ∧ ∃ t, step s = .next t ∧ t.cfgIPeriod = 50 ∧ s.cfgIPeriod = 100 :=
  ⟨rfl, _, rfl, rfl, rfl⟩

/-- `TRIG` after an earlier poll; a status read that is not ready of each channel, the byte of `RDAS` ready
for the range. -/
theorem witness_PollCountChangesOnlyInTheMeasurement :
    (∃ t, step { holding .rdrangeSs (stateAt .trig [okDraw]) with pollCnt := 7 } = .next t ∧
        t.pollCnt = 0) ∧
      (∃ t, step (holding .rdrangeSs (stateAt .poll [okBytes 0x20 0])) = .next t ∧ t.pollCnt = 1) ∧
      ∃ t, step (holding .rdalsSs (stateAt .poll [okBytes 0x04 0])) = .next t ∧ t.pollCnt = 1 :=
  ⟨⟨_, rfl, rfl⟩, ⟨_, rfl, rfl⟩, _, rfl, rfl⟩

/-- A step with reset from the address `0x29`, and one without reset. -/
theorem witness_DeviceAddressAndParametersNeverChange :
    (∃ t, step { midPoll with resetIn := [true] } = .next t) ∧ midPoll.cfgDevAddr = 0x29 ∧
      (∃ t, step midPoll = .next t) ∧ midPoll.resetIn.headD false = false :=
  ⟨⟨_, rfl⟩, rfl, ⟨_, rfl⟩, rfl⟩

/-- A gain write, whose address only `wf` keeps from the registers of other rows, and a clear write. -/
theorem witness_NoStepWritesAReadOnlyRegister :
    let s : State := { holding (.setgain 0x40000000) (stateAt .gwr [okDraw]) with latTier := 3 }
    s.params.wf = true ∧ (∃ t, step s = .next t ∧ t.trace = [.busW 0x29 0x1111 0x03 true, .resp 0 0x1B]) ∧
      midSetMode.params.wf = true ∧ ∃ t, step midSetMode = .next t ∧
        t.trace = midSetMode.trace ++ [.busW 0x29 0x0038 0x00 true] :=
  ⟨rfl, ⟨_, rfl, rfl⟩, rfl, _, rfl, rfl⟩

/-- A last step for each status of R231's matrix that a command in progress can end with. -/
theorem witness_StatusesEachCommandCanEndWith :
    after (fun s => (s.rspStatus, s.seqState)) (exec .setmodeRss (stateAt .clr2 [okDraw])) = some (0, .idle) ∧
    after (fun s => (s.rspStatus, s.seqState)) (exec .clrmodes (stateAt .clr0 [failDraw])) = some (1, .idle) ∧
    after (fun s => (s.rspStatus, s.seqState)) (exec (.setperiod 0) (strict (stateAt .idle []))) =
      some (2, .idle) ∧
    after (fun s => (s.rspStatus, s.seqState)) (exec .rdalsSs (limited 1 (stateAt .poll [okDraw]))) =
      some (3, .idle) ∧
    after (fun s => (s.rspStatus, s.seqState)) (exec .rdalsCont (stateAt .idle [])) = some (5, .idle) := by
  decide

theorem witness_StrictParametersExcludeLuxDomain :
    midPoll.params.strictParams = true ∧ (∃ t, exec .rdrangeSs midPoll = .next t) ∧ midPoll.rspStatus ≠ 6 :=
  ⟨rfl, ⟨_, rfl⟩, by decide⟩

theorem witness_ResetLeavesAHangingPoll :
    let s : State := { holding .rdrangeSs (stateAt .poll [okDraw]) with resetIn := [true], hostCmds := [0x7] }
    s.seqState = .poll ∧ s.resetIn = [true] ∧ s.hostCmds = 0x7 :: [] ∧ decode 0x7 = .ok .rdrangeCont := by
  decide

end Sys2Proof.Tests
end

namespace Sys2Proof.Machine

/-! ## Binary32 patterns as numbers (R15) -/

/-- The biased exponent by arithmetic on the pattern's number. -/
theorem f32Exp_eq (x : Word32) : f32Exp x = x.toNat / 2 ^ 23 % 256 := by
  simp only [f32Exp, BitVec.extractLsb'_toNat, Nat.shiftRight_eq_div_pow]

/-- The fraction by arithmetic on the pattern's number. -/
theorem f32Frac_eq (x : Word32) : f32Frac x = x.toNat % 2 ^ 23 := by
  simp only [f32Frac, BitVec.extractLsb'_toNat, Nat.shiftRight_zero]

theorem f32IsNaN_iff (x : Word32) : f32IsNaN x = true ↔ f32Exp x = 255 ∧ f32Frac x ≠ 0 := by
  simp only [f32IsNaN, Bool.and_eq_true, beq_iff_eq, bne_iff_ne]

/-- The sign of a pattern is read from its number. -/
theorem f32Units_eq (x : Word32) :
    f32Units x = if 2 ^ 31 ≤ x.toNat then -(f32Mag x : Int) else (f32Mag x : Int) := by
  simp only [f32Units, BitVec.msb_eq_decide, decide_eq_true_eq]

/-- Settles O58: the exponent and the fraction are the digits the statement takes from the number, and the sign
bit is its comparison with `2^31`. -/
theorem binaryPatternsHaveTheirValues : Obligations.BinaryPatternsHaveTheirValues := by
  intro x
  dsimp only
  rw [← f32Exp_eq, ← f32Frac_eq]
  exact ⟨f32IsNaN_iff x, rfl, f32Units_eq x⟩

/-! ## What one step of a command can do (R30)

`exec_commandStep` says it once for every command and control state: the accept step in `IDLE`, one
transaction with what its answer leads to in the control states of the command, and the fault in all others. -/

/-- The state after the transaction `x`, issued and answered, and before anything else of its step. -/
def State.issue (x : Transaction) (s : State) : State := s.afterBus [x.event s.cfgDevAddr s.nextDraw]

/-- A step that issues `x`: `done` where the answer is not `fail`, else the end by R236. -/
def busStep (x : Transaction) (done : State → State) (s : State) : Out :=
  if s.nextDraw.ack then .next (done (s.issue x)) else .next ((s.issue x).respond .transportFailure 0)

/-- What the accept step of `i` makes of `s`: a first control state of the command, its latches and the mode it
requests written, or a response at once. -/
inductive Accepted (i : Instr) (s : State) : State → Prop
  | start (q : SeqState) (tier : TierIdx) (hq : i.standsIn q = true) :
      Accepted i s { s.latch i with
        cfgMode := i.requestedMode.getD s.cfgMode, latTier := tier, seqState := q }
  | refuse (st : Status) : Accepted i s ((s.latch i).respond st 0)

/-- What the answer of a transaction makes of the state `u` after it: the command goes on in one of its control
states, or it ends with its response. -/
inductive Answered (i : Instr) (u : State) : State → Prop
  | goOn (q : SeqState) (polls : Nat) (hq : i.standsIn q = true) :
      Answered i u { u with pollCnt := polls, seqState := q }
  | finish (tier : TierIdx) (period : Word32) (polls : Nat) (st : Status) (r : Word32) :
      Answered i u (State.respond st r { u with cfgGainIdx := tier, cfgIPeriod := period, pollCnt := polls })

/-- One step of the command `i` from `s`, as R30's table gives it. -/
inductive CommandStep (i : Instr) (s : State) : Out → Prop
  | accept {t : State} (hq : s.seqState = .idle) (ht : Accepted i s t) : CommandStep i s (.next t)
  | bus {x : Transaction} {done : State → State} (hq : i.standsIn s.seqState = true)
      (hx : dueTransaction i s = some x) (hdone : ∀ u, Answered i u (done u)) :
      CommandStep i s (busStep x done s)
  | stuck (hq : s.seqState ≠ .idle) (hi : i.standsIn s.seqState = false) :
      CommandStep i s (.fault .noTransition)

/-! ### The bus steps of Ops.lean as `busStep` -/

section
variable {i : Instr} {s : State} {reg : RegAddr} {b : Byte} {q : SeqState}

theorem Answered.goto (u : State) (hq : i.standsIn q = true) : Answered i u (u.goto q) :=
  .goOn q u.pollCnt hq

theorem Answered.respond (u : State) (st : Status) (r : Word32) : Answered i u (u.respond st r) :=
  .finish u.cfgGainIdx u.cfgIPeriod u.pollCnt st r

theorem CommandStep.write {done : State → State} (hs : s.seqState = q) (hq : i.standsIn q = true)
    (hx : dueTransaction i s = some (.write reg b)) (hdone : ∀ u, Answered i u (done u)) :
    CommandStep i s (writeStep reg b done s) := .bus (hs ▸ hq) hx hdone

theorem CommandStep.readByte {done : Byte → State → State} (hs : s.seqState = q) (hq : i.standsIn q = true)
    (hx : dueTransaction i s = some (.read reg 1)) (hdone : ∀ b0 u, Answered i u (done b0 u)) :
    CommandStep i s (readByteStep reg done s) := .bus (hs ▸ hq) hx (hdone s.nextDraw.b0)

theorem CommandStep.readPair {done : Byte → Byte → State → State} (hs : s.seqState = q)
    (hq : i.standsIn q = true) (hx : dueTransaction i s = some (.read reg 2))
    (hdone : ∀ b0 b1 u, Answered i u (done b0 b1 u)) :
    CommandStep i s (readPairStep reg done s) := .bus (hs ▸ hq) hx (hdone s.nextDraw.b0 s.nextDraw.b1)

theorem CommandStep.stuckIn (hs : s.seqState = q) (hidle : q ≠ .idle) (hi : i.standsIn q = false) :
    CommandStep i s (.fault .noTransition) := .stuck (hs ▸ hidle) (hs ▸ hi)

/-! ### The steps several commands share -/

theorem clr0Step_commandStep (hs : s.seqState = .clr0) (h0 : i.standsIn .clr0 = true)
    (h1 : i.standsIn .clr1 = true) : CommandStep i s (clr0Step s) :=
  .write hs h0 (by rw [dueTransaction, hs]; rfl) (fun u => .goto u h1)

theorem clr1Step_commandStep (hs : s.seqState = .clr1) (h1 : i.standsIn .clr1 = true)
    (h2 : i.standsIn .clr2 = true) : CommandStep i s (clr1Step s) :=
  .write hs h1 (by rw [dueTransaction, hs]; rfl) (fun u => .goto u h2)

theorem clr2Step_commandStep {done : State → State} (hs : s.seqState = .clr2) (h2 : i.standsIn .clr2 = true)
    (hdone : ∀ u, Answered i u (done u)) : CommandStep i s (clr2Step done s) :=
  .write hs h2 (by rw [dueTransaction, hs]; rfl) hdone

/-- The control states of a `SETM` with this terminal write (R30, R103). -/
def Terminal.standsIn : Terminal → SeqState → Bool
  | none, q => q == .clr0 || q == .clr1 || q == .clr2
  | some _, q => q == .clr0 || q == .clr1 || q == .clr2 || q == .mwr

theorem afterClear_answered {T : Terminal} (hi : i.standsIn = T.standsIn) (u : State) :
    Answered i u (afterClear T u) := by
  cases T with
  | none => exact .respond u .ok 0
  | some w => exact .goto u (by rw [hi]; rfl)

theorem terminalStep_commandStep {T : Terminal} (hi : i.standsIn = T.standsIn) (hT : i.terminalWrite = T)
    (hs : s.seqState = .mwr) : CommandStep i s (terminalStep T s) := by
  cases T with
  | none => exact .stuckIn hs (by decide) (by rw [hi]; rfl)
  | some w =>
    exact .write hs (by rw [hi]; rfl) (by rw [dueTransaction, hs, hT]; rfl) (fun u => .respond u .ok 0)

theorem execClrmodes_commandStep (s : State) : CommandStep .clrmodes s (execClrmodes s) := by
  unfold execClrmodes
  cases hs : s.seqState with
  | idle => exact .accept hs (.start .clr0 s.latTier rfl)
  | clr0 => exact clr0Step_commandStep hs rfl rfl
  | clr1 => exact clr1Step_commandStep hs rfl rfl
  | clr2 => exact clr2Step_commandStep hs rfl (fun u => .respond u .ok 0)
  | mwr | trig | poll | res | gwr | pwr => exact .stuckIn hs (by decide) rfl

theorem setModeStep_commandStep {m : Mode} {T : Terminal} (hi : i.standsIn = T.standsIn)
    (hT : i.terminalWrite = T) (hm : i.requestedMode = some m.code) (s : State) :
    CommandStep i s (setModeStep i m T s) := by
  have h0 : i.standsIn .clr0 = true := by rw [hi]; cases T <;> rfl
  have h1 : i.standsIn .clr1 = true := by rw [hi]; cases T <;> rfl
  have h2 : i.standsIn .clr2 = true := by rw [hi]; cases T <;> rfl
  unfold setModeStep
  cases hs : s.seqState with
  | idle =>
    have hstart := Accepted.start (s := s) .clr0 s.latTier h0
    rw [hm] at hstart
    exact .accept hs hstart
  | clr0 => exact clr0Step_commandStep hs h0 h1
  | clr1 => exact clr1Step_commandStep hs h1 h2
  | clr2 => exact clr2Step_commandStep hs h2 (afterClear_answered hi)
  | mwr => exact terminalStep_commandStep hi hT hs
  | trig | poll | res | gwr | pwr => exact .stuckIn hs (by decide) (by rw [hi]; cases T <;> rfl)

/-! ### The measurement commands -/

theorem afterStatus_answered {ch : Channel} (hpoll : i.standsIn .poll = true) (hres : i.standsIn .res = true)
    (b0 : Byte) (u : State) : Answered i u (afterStatus ch b0 u) := by
  obtain ⟨-, h⟩ | ⟨-, -, h⟩ | ⟨-, -, h⟩ := afterStatus_cases ch b0 u <;> rw [h]
  · exact .goto u hres
  · exact .finish u.cfgGainIdx u.cfgIPeriod (u.pollCnt + 1) .timeout 0
  · exact .goOn .poll (u.pollCnt + 1) hpoll

theorem afterAlsResult_answered (b0 b1 : Byte) (u : State) : Answered i u (afterAlsResult b0 b1 u) := by
  obtain ⟨-, h⟩ | ⟨-, h⟩ := afterAlsResult_cases b0 b1 u <;> rw [h]
  · exact .respond u .luxDomain 0
  · exact .respond u .ok _

theorem measureStep_commandStep {m : Mode} {ch : Channel} {resultStep : State → Out}
    (hi : i.standsIn = Instr.rdrangeSs.standsIn) (hm : i.requestedMode = some m.code)
    (hch : ch.startReg = if i = .rdalsSs then 0x0038 else 0x0018)
    (hresult : ∀ s, s.seqState = .res → CommandStep i s (resultStep s)) (s : State) :
    CommandStep i s (measureStep i m ch resultStep s) := by
  unfold measureStep
  cases hs : s.seqState with
  | idle =>
    have hstart := Accepted.start (i := i) (s := s) .clr0 s.latTier (by rw [hi]; rfl)
    rw [hm] at hstart
    exact .accept hs hstart
  | clr0 => exact clr0Step_commandStep hs (by rw [hi]; rfl) (by rw [hi]; rfl)
  | clr1 => exact clr1Step_commandStep hs (by rw [hi]; rfl) (by rw [hi]; rfl)
  | clr2 => exact clr2Step_commandStep hs (by rw [hi]; rfl) (fun u => .goto u (by rw [hi]; rfl))
  | trig =>
    exact .write hs (by rw [hi]; rfl) (by rw [dueTransaction, hs, hch]; rfl)
      (fun u => .goOn .poll 0 (by rw [hi]; rfl))
  | poll =>
    exact .readByte hs (by rw [hi]; rfl) (by rw [dueTransaction, hs]; rfl)
      (afterStatus_answered (by rw [hi]; rfl) (by rw [hi]; rfl))
  | res => exact hresult s hs
  | mwr | gwr | pwr => exact .stuckIn hs (by decide) (by rw [hi]; rfl)

theorem rangeResultStep_commandStep (s : State) (hs : s.seqState = .res) :
    CommandStep .rdrangeSs s (rangeResultStep s) :=
  .readByte hs rfl (by rw [dueTransaction, hs]; rfl) (fun b0 u => .respond u .ok (b0.setWidth 32))

theorem alsResultStep_commandStep (s : State) (hs : s.seqState = .res) :
    CommandStep .rdalsSs s (alsResultStep s) :=
  .readPair hs rfl (by rw [dueTransaction, hs]; rfl) afterAlsResult_answered

/-! ### The quantizer commands and the refused reads -/

theorem execSetgain_commandStep (x : Word32) (s : State) :
    CommandStep (.setgain x) s (execSetgain x s) := by
  unfold execSetgain
  cases hs : s.seqState with
  | idle =>
    refine .accept hs ?_
    obtain ⟨-, -, h⟩ | ⟨-, h⟩ := acceptGain_cases (s.latch (.setgain x)) <;> rw [h]
    · exact .refuse .invalidParameter
    · exact .start .gwr (gainSelect x) rfl
  | gwr =>
    exact .write hs rfl (by rw [dueTransaction, hs])
      (fun u => .finish u.latTier u.cfgIPeriod u.pollCnt .ok (gainResult u.latTier))
  | clr0 | clr1 | clr2 | mwr | trig | poll | res | pwr => exact .stuckIn hs (by decide) rfl

theorem execSetperiod_commandStep (ms : Word32) (s : State) :
    CommandStep (.setperiod ms) s (execSetperiod ms s) := by
  unfold execSetperiod
  cases hs : s.seqState with
  | idle =>
    refine .accept hs ?_
    obtain ⟨-, -, h⟩ | ⟨-, h⟩ := acceptPeriod_cases (s.latch (.setperiod ms)) <;> rw [h]
    · exact .refuse .invalidParameter
    · exact .start .pwr s.latTier rfl
  | pwr =>
    exact .write hs rfl (by rw [dueTransaction, hs])
      (fun u => .finish u.cfgGainIdx u.latOpnd u.pollCnt .ok 0)
  | clr0 | clr1 | clr2 | mwr | trig | poll | res | gwr => exact .stuckIn hs (by decide) rfl

theorem unimplementedStep_commandStep (hi : ∀ q, i.standsIn q = false) (s : State) :
    CommandStep i s (unimplementedStep i s) := by
  unfold unimplementedStep
  cases hs : s.seqState with
  | idle => exact .accept hs (.refuse .unimplemented)
  | clr0 | clr1 | clr2 | mwr | trig | poll | res | gwr | pwr => exact .stuckIn hs (by decide) (hi _)

/-- Every command's step is one of R30's: its accept step, its one transaction, or none at all. -/
theorem exec_commandStep (i : Instr) (s : State) : CommandStep i s (exec i s) := by
  cases i with
  | clrmodes => exact execClrmodes_commandStep s
  | setmodeRss | setmodeAss | setmodeAcont | setmodeRcont | setmodeRcontAss | setmodeRssAcont | setmodeIlv =>
    exact setModeStep_commandStep rfl rfl rfl s
  | rdrangeSs => exact measureStep_commandStep rfl rfl rfl rangeResultStep_commandStep s
  | rdalsSs => exact measureStep_commandStep (i := .rdalsSs) rfl rfl rfl alsResultStep_commandStep s
  | setgain x => exact execSetgain_commandStep x s
  | setperiod ms => exact execSetperiod_commandStep ms s
  | rdrangeCont | rdalsCont => exact unimplementedStep_commandStep (fun _ => rfl) s

end

/-! ### What an answered transaction leaves and adds -/

section
variable {i : Instr} {s t u : State}

/-- An answered transaction's step writes no latch, no mode, no parameter and nothing of the host's. -/
theorem Answered.frame (h : Answered i u t) :
    t.busAnswers = u.busAnswers ∧ t.drawCount = u.drawCount ∧
      t.latOp = u.latOp ∧ t.latMode = u.latMode ∧ t.latOpnd = u.latOpnd ∧ t.latTier = u.latTier ∧
      t.cfgDevAddr = u.cfgDevAddr ∧ t.cfgMode = u.cfgMode ∧ t.params = u.params ∧
      t.hostCmds = u.hostCmds ∧ t.resetIn = u.resetIn := by
  cases h <;> exact ⟨rfl, rfl, rfl, rfl, rfl, rfl, rfl, rfl, rfl, rfl, rfl⟩

/-- After its transaction a step adds no event and the command goes on, or it adds the response and the
command has ended. -/
theorem Answered.events (h : Answered i u t) :
    ∃ evs, t.trace = u.trace ++ evs ∧
      ((evs = [] ∧ i.standsIn t.seqState = true ∧ t.rspStatus = u.rspStatus ∧ t.rspResult = u.rspResult) ∨
       (evs = [.resp t.rspStatus t.rspResult] ∧ t.seqState = .idle)) := by
  cases h with
  | goOn q polls hq => exact ⟨[], (List.append_nil _).symm, .inl ⟨rfl, hq, rfl, rfl⟩⟩
  | finish tier period polls st r => exact ⟨[.resp st.code r], rfl, .inr ⟨rfl, rfl⟩⟩

/-- A bus step completes whatever the answer. -/
theorem busStep_completes (x : Transaction) {done : State → State} (hdone : ∀ u, Answered i u (done u))
    (s : State) : ∃ t, busStep x done s = .next t ∧ Answered i (s.issue x) t := by
  cases ha : s.nextDraw.ack
  · exact ⟨_, by simp [busStep, ha], .respond _ .transportFailure 0⟩
  · exact ⟨_, by simp [busStep, ha], hdone _⟩

theorem standsIn_idle (i : Instr) : i.standsIn .idle = false := by cases i <;> rfl

/-- In its control states a command issues the transaction due there, and its step completes. -/
theorem exec_of_standsIn (h : i.standsIn s.seqState = true) :
    ∃ x t, dueTransaction i s = some x ∧ exec i s = .next t ∧ Answered i (s.issue x) t := by
  have hstep := exec_commandStep i s
  generalize exec i s = o at hstep
  cases hstep with
  | accept hq => rw [hq, standsIn_idle] at h; cases h
  | bus hq hx hdone =>
    obtain ⟨t, ht, hans⟩ := busStep_completes _ hdone s
    exact ⟨_, t, hx, ht, hans⟩
  | stuck hq hi => rw [hi] at h; cases h

/-- All that a step of a command can do where it completes: the accept step, or its one transaction. -/
theorem exec_cases (h : exec i s = .next t) :
    (s.seqState = .idle ∧ Accepted i s t) ∨
    (i.standsIn s.seqState = true ∧ ∃ x, dueTransaction i s = some x ∧ Answered i (s.issue x) t) := by
  have hstep := exec_commandStep i s
  generalize exec i s = o at hstep h
  cases hstep with
  | accept hq hacc => cases h; exact .inl ⟨hq, hacc⟩
  | bus hq hx hdone =>
    obtain ⟨t', ht', hans⟩ := busStep_completes _ hdone s
    cases ht'.symm.trans h
    exact .inr ⟨hq, _, hx, hans⟩
  | stuck => cases h

end

/-- Settles O13: the step is a bus step of the transaction due, and what an answer makes of the state after it
keeps the frame. -/
theorem everyStepIssuesItsOneTransaction : Obligations.EveryStepIssuesItsOneTransaction := by
  intro i s hs
  obtain ⟨x, t, hx, ht, hans⟩ := exec_of_standsIn hs
  obtain ⟨evs, htrace, hevs⟩ := hans.events
  exact ⟨x, t, evs, hx, ht, htrace.trans (List.append_assoc ..), hevs, hans.frame⟩

/-! ## Events and answers of the bus are counted together (R62) -/

/-- `t` continues the trace of `s` by events with `n` bus transactions among them, and has consumed `n` answers
more. -/
def Issued (n : Nat) (s t : State) : Prop :=
  ∃ evs, t.trace = s.trace ++ evs ∧ evs.countP Event.isBus = n ∧ t.drawCount = s.drawCount + n ∧
    t.busAnswers = s.busAnswers.drop n

section
variable {i : Instr} {s t u : State}

theorem Issued.trans {m n : Nat} (h₁ : Issued m s t) (h₂ : Issued n t u) : Issued (m + n) s u := by
  obtain ⟨evs₁, htr₁, hc₁, hd₁, ha₁⟩ := h₁
  obtain ⟨evs₂, htr₂, hc₂, hd₂, ha₂⟩ := h₂
  refine ⟨evs₁ ++ evs₂, ?_, ?_, ?_, ?_⟩
  · rw [htr₂, htr₁, List.append_assoc]
  · rw [List.countP_append, hc₁, hc₂]
  · rw [hd₂, hd₁, Nat.add_assoc]
  · rw [ha₂, ha₁, List.drop_drop]

/-- A state with the same trace and oracle. -/
theorem Issued.none (htr : t.trace = s.trace) (hd : t.drawCount = s.drawCount)
    (ha : t.busAnswers = s.busAnswers) : Issued 0 s t :=
  ⟨[], by rw [htr, List.append_nil], rfl, hd, ha⟩

/-- A response is no transaction. -/
theorem issued_respond (s : State) (st : Status) (r : Word32) : Issued 0 s (s.respond st r) :=
  ⟨[.resp st.code r], rfl, rfl, rfl, rfl⟩

/-- An accept is no transaction. -/
theorem issued_takeCommand (w : CmdWord) (rest : List CmdWord) (s : State) :
    Issued 0 s (s.takeCommand w rest) := ⟨[.accept w], rfl, rfl, rfl, rfl⟩

theorem issued_issue (x : Transaction) (s : State) : Issued 1 s (s.issue x) := by
  refine ⟨[x.event s.cfgDevAddr s.nextDraw], rfl, ?_, rfl, List.drop_one.symm⟩
  cases x <;> rfl

theorem Accepted.issued (h : Accepted i s t) : Issued 0 s t := by
  cases h with
  | start q tier hq => exact .none rfl rfl rfl
  | refuse st => exact issued_respond (s.latch i) st 0

theorem Answered.issued (h : Answered i u t) : Issued 0 u t := by
  cases h with
  | goOn q polls hq => exact .none rfl rfl rfl
  | finish tier period polls st r => exact issued_respond _ st r

theorem exec_issued (h : exec i s = .next t) : ∃ n ≤ 1, Issued n s t := by
  obtain ⟨-, hacc⟩ | ⟨-, x, -, hans⟩ := exec_cases h
  · exact ⟨0, Nat.zero_le 1, hacc.issued⟩
  · exact ⟨1, le_rfl, (issued_issue x s).trans hans.issued⟩

theorem sequencerStep_issued (h : sequencerStep s = .next t) : ∃ n ≤ 1, Issued n s t := by
  obtain ⟨-, -, rfl⟩ | ⟨w, rest, e, -, -, -, rfl⟩ | ⟨w, rest, i, -, -, -, hex⟩ | ⟨i, -, -, hex⟩ :=
    sequencerStep_cases h
  · exact ⟨0, Nat.zero_le 1, .none rfl rfl rfl⟩
  · exact ⟨0, Nat.zero_le 1, (issued_takeCommand w rest s).trans (issued_respond _ .illegalCommand 0)⟩
  · obtain ⟨n, hn, hiss⟩ := exec_issued hex
    exact ⟨0 + n, by omega, (issued_takeCommand w rest s).trans hiss⟩
  · exact exec_issued hex

theorem step_issued (h : step s = .next t) : ∃ n ≤ 1, Issued n s t := by
  obtain ⟨-, rfl⟩ | ⟨-, hseq⟩ := step_cases h
  · exact ⟨0, Nat.zero_le 1, .none rfl rfl rfl⟩
  · exact sequencerStep_issued (s := s.resetTick) hseq

end

/-- Settles O48: reset, waiting, an accept and a response issue nothing, and a command in progress issues one
transaction. -/
theorem aStepAppendsAtMostOneTransaction : Obligations.AStepAppendsAtMostOneTransaction := by
  intro s t h
  obtain ⟨n, hn, evs, htr, rfl, hd, ha⟩ := step_issued h
  exact ⟨evs, htr, hn, hd, ha⟩

end Sys2Proof.Machine

namespace Sys2Proof.Machine

/-! ## The step by its cases (R10, R27, R34) -/

/-- Settles O7: without reset the sequencer decodes the latches and runs their command. -/
theorem stepRunsTheLatchedCommand : Obligations.StepRunsTheLatchedCommand := by
  intro s i hq hr hd
  rw [step_noReset hr]
  exact sequencerStep_busy (s := s.resetTick) hq hd

/-- Settles O10: the step is `assertReset` on the state whose reset input has moved on. -/
theorem resetPutsEveryRegisterInItsResetState : Obligations.ResetPutsEveryRegisterInItsResetState := by
  intro s hr
  exact ⟨_, step_reset hr, rfl, rfl, rfl, rfl, rfl, rfl, rfl, rfl, rfl, rfl, rfl, rfl, rfl, rfl⟩

/-- Settles O11: each value is the field of `State.reset`, the period's read as a signed number. -/
theorem resetStateHoldsTheSpecsValues : Obligations.ResetStateHoldsTheSpecsValues :=
  ⟨rfl, rfl, rfl, by decide, rfl, rfl, rfl, rfl, rfl, rfl, rfl, rfl, rfl⟩

/-! ## What an `ok` answer does to the registers

`Answered` lets the gain index, the period, `POLL_CNT` and the response take any value; `AnsweredOk` says which of
them each control state writes, and with what. -/

/-- The measurement command of a channel (R140, R155). -/
def Channel.command : Channel → Instr
  | .range => .rdrangeSs
  | .als => .rdalsSs

/-- What the `ok` answer `d` makes of the state `u` after its transaction (R30): the command `i` goes on, responds,
or writes one register of its own in `TRIG`, `POLL`, `GWR` or `PWR`. -/
inductive AnsweredOk (i : Instr) (d : BusDraw) (u : State) : State → Prop
  | goOn (q : SeqState) (hq : q ∈ [SeqState.clr1, .clr2, .mwr, .trig, .res]) (hi : i.standsIn q = true) :
      AnsweredOk i d u (u.goto q)
  | respond (st : Status) (r : Word32) (hr : st = .ok ∨ r = 0) : AnsweredOk i d u (u.respond st r)
  | trigger (ch : Channel) (hs : u.seqState = .trig) (hi : i = ch.command) :
      AnsweredOk i d u ((u.setPollCnt 0).goto .poll)
  | timeout (ch : Channel) (hs : u.seqState = .poll) (hi : i = ch.command)
      (hb : channelReady u.params ch d.b0 = false) (hl : u.params.pollLimit = some (u.pollCnt + 1)) :
      AnsweredOk i d u ((u.setPollCnt (u.pollCnt + 1)).respond .timeout 0)
  | pollAgain (ch : Channel) (hs : u.seqState = .poll) (hi : i = ch.command)
      (hb : channelReady u.params ch d.b0 = false) (hl : u.params.pollLimit ≠ some (u.pollCnt + 1)) :
      AnsweredOk i d u ((u.setPollCnt (u.pollCnt + 1)).goto .poll)
  | gainStored (hs : u.seqState = .gwr) : AnsweredOk i d u (storeGain u)
  | periodStored (hs : u.seqState = .pwr) : AnsweredOk i d u (storePeriod u)

/-- If the outcome `o` of a step is a next state and the bus answered `ok`, then it is what that answer makes of the
state after the transaction `due`. -/
def OkStep (i : Instr) (s : State) (due : Option Transaction) (o : Out) : Prop :=
  ∀ t, o = .next t → s.nextDraw.ack = true →
    ∃ x, due = some x ∧ AnsweredOk i s.nextDraw (s.issue x) t

section
variable {i : Instr} {s t u : State} {reg : RegAddr} {b : Byte}

theorem OkStep.write {done : State → State}
    (hdone : AnsweredOk i s.nextDraw (s.issue (.write reg b)) (done (s.issue (.write reg b)))) :
    OkStep i s (some (.write reg b)) (writeStep reg b done s) := by
  intro t ht ha
  cases (writeStep_ok ha).symm.trans ht
  exact ⟨_, rfl, hdone⟩

theorem OkStep.readByte {done : Byte → State → State}
    (hdone : AnsweredOk i s.nextDraw (s.issue (.read reg 1)) (done s.nextDraw.b0 (s.issue (.read reg 1)))) :
    OkStep i s (some (.read reg 1)) (readByteStep reg done s) := by
  intro t ht ha
  cases (readByteStep_ok ha).symm.trans ht
  exact ⟨_, rfl, hdone⟩

theorem OkStep.readPair {done : Byte → Byte → State → State}
    (hdone : AnsweredOk i s.nextDraw (s.issue (.read reg 2))
      (done s.nextDraw.b0 s.nextDraw.b1 (s.issue (.read reg 2)))) :
    OkStep i s (some (.read reg 2)) (readPairStep reg done s) := by
  intro t ht ha
  cases (readPairStep_ok ha).symm.trans ht
  exact ⟨_, rfl, hdone⟩

theorem OkStep.fault {due : Option Transaction} {r : Fault} : OkStep i s due (.fault r) := nofun

theorem afterStatus_answeredOk {ch : Channel} {d : BusDraw} (hs : u.seqState = .poll) :
    AnsweredOk ch.command d u (afterStatus ch d.b0 u) := by
  obtain ⟨-, h⟩ | ⟨hb, hl, h⟩ | ⟨hb, hl, h⟩ := afterStatus_cases ch d.b0 u <;> rw [h]
  · exact .goOn .res (by decide) (by cases ch <;> rfl)
  · exact .timeout ch hs rfl hb hl
  · exact .pollAgain ch hs rfl hb hl

theorem afterAlsResult_answeredOk {d : BusDraw} (b0 b1 : Byte) :
    AnsweredOk i d u (afterAlsResult b0 b1 u) := by
  obtain ⟨-, h⟩ | ⟨-, h⟩ := afterAlsResult_cases b0 b1 u <;> rw [h]
  · exact .respond .luxDomain 0 (.inr rfl)
  · exact .respond .ok _ (.inl rfl)

theorem execClrmodes_okStep (hq : s.seqState ≠ .idle) :
    OkStep .clrmodes s (dueTransaction .clrmodes s) (execClrmodes s) := by
  unfold execClrmodes dueTransaction
  cases hs : s.seqState with
  | idle => exact absurd hs hq
  | clr0 => exact .write (.goOn .clr1 (by decide) rfl)
  | clr1 => exact .write (.goOn .clr2 (by decide) rfl)
  | clr2 => exact .write (.respond .ok 0 (.inl rfl))
  | mwr | trig | poll | res | gwr | pwr => exact .fault

theorem setModeStep_okStep {m : Mode} {T : Terminal} (hi : i.standsIn = T.standsIn)
    (hT : i.terminalWrite = T) (hq : s.seqState ≠ .idle) :
    OkStep i s (dueTransaction i s) (setModeStep i m T s) := by
  unfold setModeStep dueTransaction
  rw [hT]
  cases hs : s.seqState with
  | idle => exact absurd hs hq
  | clr0 => exact .write (.goOn .clr1 (by decide) (by rw [hi]; cases T <;> rfl))
  | clr1 => exact .write (.goOn .clr2 (by decide) (by rw [hi]; cases T <;> rfl))
  | clr2 =>
    cases T with
    | none => exact .write (.respond .ok 0 (.inl rfl))
    | some w => exact .write (.goOn .mwr (by decide) (by rw [hi]; rfl))
  | mwr =>
    cases T with
    | none => exact .fault
    | some w => exact .write (.respond .ok 0 (.inl rfl))
  | trig | poll | res | gwr | pwr => exact .fault

theorem measureStep_okStep {m : Mode} {ch : Channel} {resultStep : State → Out} (hq : s.seqState ≠ .idle)
    (hresult : s.seqState = .res → OkStep ch.command s (dueTransaction ch.command s) (resultStep s)) :
    OkStep ch.command s (dueTransaction ch.command s) (measureStep ch.command m ch resultStep s) := by
  unfold measureStep
  cases hs : s.seqState with
  | idle => exact absurd hs hq
  | clr0 => rw [dueTransaction, hs]; exact .write (.goOn .clr1 (by decide) (by cases ch <;> rfl))
  | clr1 => rw [dueTransaction, hs]; exact .write (.goOn .clr2 (by decide) (by cases ch <;> rfl))
  | clr2 => rw [dueTransaction, hs]; exact .write (.goOn .trig (by decide) (by cases ch <;> rfl))
  | trig => rw [dueTransaction, hs]; cases ch <;> exact .write (.trigger _ hs rfl)
  | poll => rw [dueTransaction, hs]; exact .readByte (afterStatus_answeredOk hs)
  | res => exact hresult hs
  | mwr | gwr | pwr => exact .fault

theorem rangeResultStep_okStep (hs : s.seqState = .res) :
    OkStep .rdrangeSs s (dueTransaction .rdrangeSs s) (rangeResultStep s) := by
  rw [dueTransaction, hs]
  exact .readByte (.respond .ok _ (.inl rfl))

theorem alsResultStep_okStep (hs : s.seqState = .res) :
    OkStep .rdalsSs s (dueTransaction .rdalsSs s) (alsResultStep s) := by
  rw [dueTransaction, hs]
  exact .readPair (afterAlsResult_answeredOk _ _)

theorem execSetgain_okStep {x : Word32} (hq : s.seqState ≠ .idle) :
    OkStep (.setgain x) s (dueTransaction (.setgain x) s) (execSetgain x s) := by
  unfold execSetgain dueTransaction
  cases hs : s.seqState with
  | idle => exact absurd hs hq
  | gwr => exact .write (.gainStored hs)
  | clr0 | clr1 | clr2 | mwr | trig | poll | res | pwr => exact .fault

theorem execSetperiod_okStep {ms : Word32} (hq : s.seqState ≠ .idle) :
    OkStep (.setperiod ms) s (dueTransaction (.setperiod ms) s) (execSetperiod ms s) := by
  unfold execSetperiod dueTransaction
  cases hs : s.seqState with
  | idle => exact absurd hs hq
  | pwr => exact .write (.periodStored hs)
  | clr0 | clr1 | clr2 | mwr | trig | poll | res | gwr => exact .fault

theorem unimplementedStep_okStep (hq : s.seqState ≠ .idle) :
    OkStep i s (dueTransaction i s) (unimplementedStep i s) := by
  unfold unimplementedStep
  cases hs : s.seqState with
  | idle => exact absurd hs hq
  | clr0 | clr1 | clr2 | mwr | trig | poll | res | gwr | pwr => exact .fault

/-- Outside `IDLE` every command's answered step is one of `AnsweredOk`. -/
theorem exec_okStep (i : Instr) (hq : s.seqState ≠ .idle) : OkStep i s (dueTransaction i s) (exec i s) := by
  cases i with
  | clrmodes => exact execClrmodes_okStep hq
  | setmodeRss | setmodeAss | setmodeAcont | setmodeRcont | setmodeRcontAss | setmodeRssAcont | setmodeIlv =>
    exact setModeStep_okStep rfl rfl hq
  | rdrangeSs => exact measureStep_okStep (ch := .range) hq rangeResultStep_okStep
  | rdalsSs => exact measureStep_okStep (ch := .als) hq alsResultStep_okStep
  | setgain x => exact execSetgain_okStep hq
  | setperiod ms => exact execSetperiod_okStep hq
  | rdrangeCont | rdalsCont => exact unimplementedStep_okStep hq

/-- A failed answer ends the command (R236). -/
theorem exec_fail (hq : s.seqState ≠ .idle) (ha : s.nextDraw.ack = false) (h : exec i s = .next t) :
    ∃ x, dueTransaction i s = some x ∧ t = (s.issue x).respond .transportFailure 0 := by
  have hstep := exec_commandStep i s
  generalize exec i s = o at hstep h
  cases hstep with
  | accept hidle => exact absurd hidle hq
  | bus _ hx =>
    rw [busStep, ha] at h
    cases h
    exact ⟨_, hx, rfl⟩
  | stuck => cases h

/-- All that a step of a command in progress can do, its answer `fail` or `ok`. -/
theorem exec_busy_cases (hq : s.seqState ≠ .idle) (h : exec i s = .next t) :
    ∃ x, dueTransaction i s = some x ∧
      ((s.nextDraw.ack = false ∧ t = (s.issue x).respond .transportFailure 0) ∨
       (s.nextDraw.ack = true ∧ AnsweredOk i s.nextDraw (s.issue x) t)) := by
  cases ha : s.nextDraw.ack
  · obtain ⟨x, hx, ht⟩ := exec_fail hq ha h
    exact ⟨x, hx, .inl ⟨rfl, ht⟩⟩
  · obtain ⟨x, hx, ht⟩ := exec_okStep i hq t h ha
    exact ⟨x, hx, .inr ⟨rfl, ht⟩⟩

/-- A command's accept step is one of `Accepted`. -/
theorem exec_idle (hq : s.seqState = .idle) (h : exec i s = .next t) : Accepted i s t := by
  obtain ⟨-, hacc⟩ | ⟨hi, -⟩ := exec_cases h
  · exact hacc
  · rw [hq, standsIn_idle] at hi
    cases hi

end
end Sys2Proof.Machine

namespace Sys2Proof.Machine

/-! ## Which step writes which register (R22 to R28) -/

section
variable {i : Instr} {s t u : State}

/-- The fields no step of the SRS without reset writes. -/
theorem Accepted.device_params (h : Accepted i s t) : t.cfgDevAddr = s.cfgDevAddr ∧ t.params = s.params := by
  cases h <;> exact ⟨rfl, rfl⟩

/-- An accept step writes `CFG_MODE` only with the mode requested. -/
theorem Accepted.cfgMode (h : Accepted i s t) :
    t.cfgMode = s.cfgMode ∨ ∃ m, i.requestedMode = some m ∧ t.cfgMode = m := by
  cases h with
  | refuse st => exact .inl rfl
  | start q tier hq =>
    cases hm : i.requestedMode with
    | none => exact .inl rfl
    | some m => exact .inr ⟨m, rfl, rfl⟩

theorem exec_device_params (h : exec i s = .next t) : t.cfgDevAddr = s.cfgDevAddr ∧ t.params = s.params := by
  obtain ⟨-, hacc⟩ | ⟨-, x, -, hans⟩ := exec_cases h
  · exact hacc.device_params
  · obtain ⟨-, -, -, -, -, -, hdev, -, hparams, -, -⟩ := hans.frame
    exact ⟨hdev, hparams⟩

theorem sequencerStep_device_params (h : sequencerStep s = .next t) :
    t.cfgDevAddr = s.cfgDevAddr ∧ t.params = s.params := by
  obtain ⟨-, -, rfl⟩ | ⟨w, rest, e, -, -, -, rfl⟩ | ⟨w, rest, i, -, -, -, hex⟩ | ⟨i, -, -, hex⟩ :=
    sequencerStep_cases h
  · exact ⟨rfl, rfl⟩
  · exact ⟨rfl, rfl⟩
  · exact exec_device_params (s := s.takeCommand w rest) hex
  · exact exec_device_params hex

theorem sequencerStep_cfgMode (h : sequencerStep s = .next t) :
    t.cfgMode = s.cfgMode ∨ ∃ w rest i m, s.seqState = .idle ∧ s.hostCmds = w :: rest ∧ decode w = .ok i ∧
      i.requestedMode = some m ∧ t.cfgMode = m := by
  obtain ⟨-, -, rfl⟩ | ⟨w, rest, e, -, -, -, rfl⟩ | ⟨w, rest, i, hq, hc, hd, hex⟩ | ⟨i, hq, -, hex⟩ :=
    sequencerStep_cases h
  · exact .inl rfl
  · exact .inl rfl
  · obtain hkeep | ⟨m, hm, ht⟩ := (exec_idle (s := s.takeCommand w rest) hq hex).cfgMode
    · exact .inl hkeep
    · exact .inr ⟨w, rest, i, m, hq, hc, hd, hm, ht⟩
  · obtain ⟨hidle, -⟩ | ⟨-, x, -, hans⟩ := exec_cases hex
    · exact absurd hidle hq
    · obtain ⟨-, -, -, -, -, -, -, hmode, -, -, -⟩ := hans.frame
      exact .inl hmode

/-- `t` holds the gain index, the period and the poll count of `s`. -/
def State.SameMeasures (s t : State) : Prop :=
  t.cfgGainIdx = s.cfgGainIdx ∧ t.cfgIPeriod = s.cfgIPeriod ∧ t.pollCnt = s.pollCnt

theorem Accepted.sameMeasures (h : Accepted i s t) : s.SameMeasures t := by
  cases h <;> exact ⟨rfl, rfl, rfl⟩

/-- Only an `ok` answer to the command in progress writes the gain index, the period or the poll count. -/
theorem sequencerStep_sameMeasures (h : sequencerStep s = .next t) :
    s.SameMeasures t ∨ ∃ i x, decode s.latchedWord = .ok i ∧ s.nextDraw.ack = true ∧
      AnsweredOk i s.nextDraw (s.issue x) t := by
  obtain ⟨-, -, rfl⟩ | ⟨w, rest, e, -, -, -, rfl⟩ | ⟨w, rest, i, hq, -, -, hex⟩ | ⟨i, hq, hd, hex⟩ :=
    sequencerStep_cases h
  · exact .inl ⟨rfl, rfl, rfl⟩
  · exact .inl ⟨rfl, rfl, rfl⟩
  · exact .inl (exec_idle (s := s.takeCommand w rest) hq hex).sameMeasures
  · obtain ⟨x, -, ⟨-, rfl⟩ | ⟨ha, hans⟩⟩ := exec_busy_cases hq hex
    · exact .inl ⟨rfl, rfl, rfl⟩
    · exact .inr ⟨i, x, hd, ha, hans⟩

/-- `sequencerStep_sameMeasures` for a step in which reset is not asserted. -/
theorem step_sameMeasures (hr : s.resetIn.headD false = false) (h : step s = .next t) :
    s.SameMeasures t ∨ ∃ i x, decode s.latchedWord = .ok i ∧ s.nextDraw.ack = true ∧
      AnsweredOk i s.nextDraw (s.resetTick.issue x) t :=
  sequencerStep_sameMeasures (s := s.resetTick) ((step_noReset hr).symm.trans h)

/-! ### Each register's one writer among the answered steps -/

variable {d : BusDraw}

theorem AnsweredOk.cfgGainIdx (h : AnsweredOk i d u t) (hne : t.cfgGainIdx ≠ u.cfgGainIdx) :
    u.seqState = .gwr ∧ t = storeGain u := by
  cases h with
  | gainStored hs => exact ⟨hs, rfl⟩
  | goOn | respond | trigger | timeout | pollAgain | periodStored => exact absurd rfl hne

theorem AnsweredOk.cfgIPeriod (h : AnsweredOk i d u t) (hne : t.cfgIPeriod ≠ u.cfgIPeriod) :
    u.seqState = .pwr ∧ t = storePeriod u := by
  cases h with
  | periodStored hs => exact ⟨hs, rfl⟩
  | goOn | respond | trigger | timeout | pollAgain | gainStored => exact absurd rfl hne

theorem AnsweredOk.pollCnt (h : AnsweredOk i d u t) (hne : t.pollCnt ≠ u.pollCnt) :
    (u.seqState = .trig ∧ t.pollCnt = 0) ∨
    (u.seqState = .poll ∧ t.pollCnt = u.pollCnt + 1 ∧
      ∃ ch : Channel, i = ch.command ∧ channelReady u.params ch d.b0 = false) := by
  cases h with
  | trigger ch hs => exact .inl ⟨hs, rfl⟩
  | timeout ch hs hi hb => exact .inr ⟨hs, rfl, ch, hi, hb⟩
  | pollAgain ch hs hi hb => exact .inr ⟨hs, rfl, ch, hi, hb⟩
  | goOn | respond | gainStored | periodStored => exact absurd rfl hne

end

/-! ### Readiness as arithmetic on the status byte (R147, R148) -/

theorem rangeReady_iff (b : Byte) : rangeReady b = true ↔ b.toNat % 8 = 4 := by
  simp [rangeReady, BitVec.toNat_eq]

theorem alsReady_iff (test : AlsReadyTest) (b : Byte) :
    alsReady test b = true ↔ AlsFieldReady test b.toNat := by
  cases test <;> simp [alsReady, AlsFieldReady, BitVec.toNat_eq, Nat.shiftRight_eq_div_pow]

/-- Settles O49: only an accept step writes `CFG_MODE`, and it writes the requested mode. -/
theorem modeChangesOnlyAtAccept : Obligations.ModeChangesOnlyAtAccept := by
  intro s t hr h
  exact sequencerStep_cfgMode (s := s.resetTick) ((step_noReset hr).symm.trans h)

/-- Settles O50: among the answered steps `storeGain` alone writes the index. -/
theorem gainIndexChangesOnlyAfterItsWrite : Obligations.GainIndexChangesOnlyAfterItsWrite := by
  intro s t hr h hne
  obtain ⟨hgain, -, -⟩ | ⟨i, x, -, ha, hans⟩ := step_sameMeasures hr h
  · exact absurd hgain hne
  · obtain ⟨hs, rfl⟩ := hans.cfgGainIdx hne
    exact ⟨hs, ha, rfl, rfl⟩

/-- Settles O51: among the answered steps `storePeriod` alone writes the period. -/
theorem periodChangesOnlyAfterItsWrite : Obligations.PeriodChangesOnlyAfterItsWrite := by
  intro s t hr h hne
  obtain ⟨-, hperiod, -⟩ | ⟨i, x, -, ha, hans⟩ := step_sameMeasures hr h
  · exact absurd hperiod hne
  · obtain ⟨hs, rfl⟩ := hans.cfgIPeriod hne
    exact ⟨hs, ha, rfl, rfl⟩

/-- Settles O52: the count is written by the trigger and by a status read that is not ready. -/
theorem pollCountChangesOnlyInTheMeasurement : Obligations.PollCountChangesOnlyInTheMeasurement := by
  intro s t hr h hne
  obtain ⟨-, -, hcount⟩ | ⟨i, x, hd, ha, hans⟩ := step_sameMeasures hr h
  · exact absurd hcount hne
  · refine ⟨ha, ?_⟩
    obtain htrig | ⟨hs, hcount, ch, rfl, hb⟩ := hans.pollCnt hne
    · exact .inl htrig
    · refine .inr ⟨hs, hcount, _, hd, ?_⟩
      cases ch with
      | range => exact .inl ⟨rfl, mt (rangeReady_iff _).mpr (Bool.eq_false_iff.mp hb)⟩
      | als => exact .inr ⟨rfl, mt (alsReady_iff _ _).mpr (Bool.eq_false_iff.mp hb)⟩

/-- Settles O53: without reset no operation writes these fields, and reset puts the address at `0x29`. -/
theorem deviceAddressAndParametersNeverChange : Obligations.DeviceAddressAndParametersNeverChange := by
  intro s t h
  obtain ⟨hr, rfl⟩ | ⟨-, hseq⟩ := step_cases h
  · exact ⟨rfl, fun hdev => hdev.symm, fun hno => nomatch hr.symm.trans hno⟩
  · obtain ⟨hdev, hparams⟩ := sequencerStep_device_params hseq
    exact ⟨hparams, fun _ => hdev, fun _ => hdev⟩

end Sys2Proof.Machine

namespace Sys2Proof

/-! ## The word a command latches (R27, R71) -/

/-- The word of a command decodes to the command. -/
theorem decode_encode (i : Instr) : decode (encode i) = .ok i := by
  rw [encode, decode_packWord]
  cases i <;> rfl

/-- No command requests the reserved mode 7 (R23, R76). -/
theorem requestedMode_ne_seven {i : Instr} {m : BitVec 3} (h : i.requestedMode = some m) : m ≠ 7 := by
  cases i <;> cases h <;> decide

theorem exists_setgain_of_standsIn {i : Instr} (h : i.standsIn .gwr = true) : ∃ x, i = .setgain x := by
  cases i with
  | setgain x => exact ⟨x, rfl⟩
  | _ => cases h

theorem exists_setperiod_of_standsIn {i : Instr} (h : i.standsIn .pwr = true) : ∃ ms, i = .setperiod ms := by
  cases i with
  | setperiod ms => exact ⟨ms, rfl⟩
  | _ => cases h

namespace Machine

theorem periodRejected_eq_false_iff (ms : Word32) :
    periodRejected ms = false ↔ 1 ≤ ms.toInt ∧ ms.toInt ≤ 256 := by simp [periodRejected]

section
variable {i : Instr} {s t u : State}

/-! ## Events the spec allows (R51, R56, R60, R230, R232) -/

theorem tierByte_le (i : TierIdx) : (tierByte i).toNat ≤ 7 := by
  have h := (tierCode i).isLt
  rw [tierByte, BitVec.toNat_setWidth]
  omega

theorem terminalWrite_allowed {w : RegAddr × Byte} (h : i.terminalWrite = some w) (p : Params) (ok : Bool) :
    (Event.busW 0x29 w.1 w.2 ok).Allowed p := by
  cases i <;> cases h <;> simp [Event.Allowed]

/-- The event of the transaction due is one the spec allows, whatever the answer. -/
theorem dueTransaction_allowed {x : Transaction} (hx : dueTransaction i s = some x) (d : BusDraw) :
    (x.event 0x29 d).Allowed s.params := by
  unfold dueTransaction at hx
  cases hs : s.seqState with rw [hs] at hx
  | idle => cases hx
  | mwr =>
    obtain ⟨w, hw, rfl⟩ := Option.map_eq_some_iff.mp hx
    exact terminalWrite_allowed hw s.params d.ack
  | clr0 | clr1 | clr2 | pwr => cases hx; simp [Transaction.event, Event.Allowed]
  | trig => cases hx; split <;> simp [Transaction.event, Event.Allowed]
  | gwr => cases hx; simp [Transaction.event, Event.Allowed, tierByte_le]
  | poll => cases hx; exact ⟨rfl, .inl ⟨rfl, rfl⟩, fun _ => busReadAnswer_length (d := d) (by decide)⟩
  | res =>
    cases hx
    split
    · exact ⟨rfl, .inr (.inr ⟨rfl, rfl⟩), fun _ => busReadAnswer_length (d := d) (by decide)⟩
    · exact ⟨rfl, .inr (.inl ⟨rfl, rfl⟩), fun _ => busReadAnswer_length (d := d) (by decide)⟩

/-- A response of the SRS has a code of R230, and result 0 where it is not `OK`. -/
theorem response_allowed {st : Status} {r : Word32} (hr : st = .ok ∨ r = 0) :
    st.code.toNat ≤ 6 ∧ (st.code ≠ 0 → r = 0) := by
  refine ⟨by cases st <;> decide, fun hne => ?_⟩
  obtain rfl | rfl := hr
  · exact absurd rfl hne
  · rfl

/-! ## The invariant under each operation -/

/-- The invariant speaks of the agents' fields only through the events. -/
theorem State.Inv.record (h : s.Inv) {evs : List Event} (hevs : ∀ e ∈ evs, e.Allowed s.params)
    (cmds : List CmdWord) (resets : List Bool) (draws : List BusDraw) (count : Nat) :
    State.Inv { s with
      trace := s.trace ++ evs, hostCmds := cmds, resetIn := resets, busAnswers := draws, drawCount := count } := by
  obtain ⟨hdev, hmode, hparams, hprog, hgain, hper, hstrict, hpoll, hresp, hev⟩ := h
  refine ⟨hdev, hmode, hparams, hprog, hgain, hper, hstrict, hpoll, hresp, fun e he => ?_⟩
  obtain he | he := List.mem_append.mp he
  · exact hev e he
  · exact hevs e he

theorem State.Inv.resetTick (h : s.Inv) : s.resetTick.Inv := by
  have hrec := h.record (evs := []) nofun s.hostCmds s.resetIn.tail s.busAnswers s.drawCount
  rwa [List.append_nil] at hrec

theorem State.Inv.takeCommand (h : s.Inv) (w : CmdWord) (rest : List CmdWord) : (s.takeCommand w rest).Inv :=
  h.record (evs := [.accept w]) (fun _ he => by rw [List.mem_singleton.mp he]; trivial) rest s.resetIn
    s.busAnswers s.drawCount

theorem State.Inv.issue (h : s.Inv) {x : Transaction} (hx : dueTransaction i s = some x) : (s.issue x).Inv := by
  refine h.record (evs := [x.event s.cfgDevAddr s.nextDraw]) (fun e he => ?_) s.hostCmds s.resetIn
    s.busAnswers.tail (s.drawCount + 1)
  rw [List.mem_singleton.mp he, h.device]
  exact dueTransaction_allowed hx s.nextDraw

/-- A response ends the command, and the clauses about a command in progress with it. -/
theorem State.Inv.respond (h : s.Inv) {st : Status} {r : Word32} (hr : st = .ok ∨ r = 0) :
    (s.respond st r).Inv where
  device := h.device
  mode := h.mode
  params := h.params
  progress hq := absurd rfl hq
  gain := nofun
  period := nofun
  strictPeriod := h.strictPeriod
  pollCount n hn := ⟨(h.pollCount n hn).1, nofun⟩
  response := response_allowed hr
  events e he := by
    obtain he | he := List.mem_append.mp he
    · exact h.events e he
    · rw [List.mem_singleton.mp he]
      exact response_allowed hr

/-- In `IDLE` no clause reads the latches. -/
theorem State.Inv.latch (h : s.Inv) (hq : s.seqState = .idle) (i : Instr) : (s.latch i).Inv where
  device := h.device
  mode := h.mode
  params := h.params
  progress hne := absurd hq hne
  gain hgwr := nomatch hq.symm.trans hgwr
  period hpwr := nomatch hq.symm.trans hpwr
  strictPeriod := h.strictPeriod
  pollCount := h.pollCount
  response := h.response
  events := h.events

theorem State.Inv.setPollCnt (h : s.Inv) {n : Nat}
    (hn : ∀ limit, s.params.pollLimit = some limit → n ≤ limit ∧ (s.seqState = .poll → n < limit)) :
    (s.setPollCnt n).Inv := { h with pollCount := hn }

theorem State.Inv.setCfgIPeriod (h : s.Inv) {ms : Word32}
    (hms : s.params.strictParams = true → 1 ≤ ms.toInt ∧ ms.toInt ≤ 256) : (s.setCfgIPeriod ms).Inv :=
  { h with strictPeriod := hms }

end
end Machine
end Sys2Proof

namespace Sys2Proof.Machine

/-! ## The invariant under a step -/

section
variable {i : Instr} {s t u : State} {q : SeqState} {d : BusDraw}

/-- Where an accept step leaves the sequencer: ended, at the clear sequence, or before the write of a quantizer
whose operand the strict check passed (R101, R200, R211). -/
theorem exec_entry (hq : s.seqState = .idle) (h : exec i s = .next t) :
    (t.seqState = .idle ∨ t.seqState = .clr0) ∨
    (t.seqState = .gwr ∧ t.latTier = gainSelect t.latOpnd ∧
      (t.params.strictParams = true → gainRejected t.latOpnd = false)) ∨
    (t.seqState = .pwr ∧ (t.params.strictParams = true → periodRejected t.latOpnd = false)) := by
  cases i with
  | clrmodes => rw [exec, execClrmodes, hq] at h; cases h; exact .inl (.inr rfl)
  | setmodeRss | setmodeAss | setmodeAcont | setmodeRcont | setmodeRcontAss | setmodeRssAcont | setmodeIlv =>
    replace h : setModeStep _ _ _ s = .next t := h
    rw [setModeStep, hq] at h; cases h; exact .inl (.inr rfl)
  | rdrangeSs | rdalsSs =>
    replace h : measureStep _ _ _ _ s = .next t := h
    rw [measureStep, hq] at h; cases h; exact .inl (.inr rfl)
  | rdrangeCont | rdalsCont =>
    replace h : unimplementedStep _ s = .next t := h
    rw [unimplementedStep, hq] at h; cases h; exact .inl (.inl rfl)
  | setgain x =>
    rw [exec, execSetgain, hq] at h
    cases h
    obtain ⟨-, -, hacc⟩ | ⟨hstrict, hacc⟩ := acceptGain_cases (s.latch (.setgain x)) <;> rw [hacc]
    · exact .inl (.inl rfl)
    · exact .inr (.inl ⟨rfl, rfl, hstrict⟩)
  | setperiod ms =>
    rw [exec, execSetperiod, hq] at h
    cases h
    obtain ⟨-, -, hacc⟩ | ⟨hstrict, hacc⟩ := acceptPeriod_cases (s.latch (.setperiod ms)) <;> rw [hacc]
    · exact .inl (.inl rfl)
    · exact .inr (.inr ⟨rfl, hstrict⟩)

/-- An accept step keeps the invariant: the latches hold the command's own word. -/
theorem State.Inv.accept (h : s.Inv) (hq : s.seqState = .idle) (hex : exec i s = .next t) : t.Inv := by
  have hentry := exec_entry hq hex
  cases exec_idle hq hex with
  | refuse st => exact (h.latch hq i).respond (.inr rfl)
  | start q tier hi =>
    replace hentry : (q = .idle ∨ q = .clr0) ∨
      (q = .gwr ∧ tier = gainSelect i.opnd ∧ (s.params.strictParams = true → gainRejected i.opnd = false)) ∨
      (q = .pwr ∧ (s.params.strictParams = true → periodRejected i.opnd = false)) := hentry
    refine
      { device := h.device
        mode := ?_
        params := h.params
        progress := fun _ => ⟨i, decode_encode i, hi, fun m hm => by simp [hm]⟩
        gain := ?_
        period := ?_
        strictPeriod := h.strictPeriod
        pollCount := fun n hn => ⟨(h.pollCount n hn).1, ?_⟩
        response := h.response
        events := h.events }
    · cases hm : i.requestedMode with
      | none => exact h.mode
      | some m => exact requestedMode_ne_seven hm
    · rintro rfl
      simpa using hentry
    · rintro rfl
      simpa [periodRejected_eq_false_iff] using hentry
    · rintro rfl
      simp at hentry

/-- The command in progress goes on in another of its control states, none of them a quantizer's. -/
theorem State.Inv.goto (h : s.Inv) (hbusy : s.seqState ≠ .idle) (hd : decode s.latchedWord = .ok i)
    (hi : i.standsIn q = true) (hgwr : q ≠ .gwr) (hpwr : q ≠ .pwr)
    (hpoll : q = .poll → ∀ n, s.params.pollLimit = some n → s.pollCnt < n) : (s.goto q).Inv where
  device := h.device
  mode := h.mode
  params := h.params
  progress _ := by
    obtain ⟨j, hj, -, hmode⟩ := h.progress hbusy
    cases hd.symm.trans hj
    exact ⟨i, hd, hi, hmode⟩
  gain hq := absurd hq hgwr
  period hq := absurd hq hpwr
  strictPeriod := h.strictPeriod
  pollCount n hn := ⟨(h.pollCount n hn).1, fun hq => hpoll hq n hn⟩
  response := h.response
  events := h.events

/-- What an `ok` answer makes of a state keeps the invariant. -/
theorem AnsweredOk.inv (h : u.Inv) (hbusy : u.seqState ≠ .idle) (hd : decode u.latchedWord = .ok i)
    (hans : AnsweredOk i d u t) : t.Inv := by
  cases hans with
  | goOn q hq hi =>
    refine h.goto hbusy hd hi ?_ ?_ ?_ <;> rintro rfl <;> simp at hq
  | respond st r hr => exact h.respond hr
  | trigger ch hs hi =>
    have hzero : (u.setPollCnt 0).Inv := h.setPollCnt fun _ _ => ⟨Nat.zero_le _, fun hp => nomatch hs.symm.trans hp⟩
    exact hzero.goto hbusy hd (by rw [hi]; cases ch <;> rfl) nofun nofun
      fun _ _ hn => Params.one_le_pollLimit h.params hn
  | timeout ch hs hi hb hl =>
    have hend := h.respond (st := .timeout) (r := 0) (.inr rfl)
    exact hend.setPollCnt (n := u.pollCnt + 1) fun n hn => ⟨by cases hl.symm.trans hn; rfl, nofun⟩
  | pollAgain ch hs hi hb hl =>
    have hlt : ∀ n, u.params.pollLimit = some n → u.pollCnt + 1 < n := by
      intro n hn
      have hbelow := (h.pollCount n hn).2 hs
      have hne : u.pollCnt + 1 ≠ n := fun heq => hl (heq ▸ hn)
      omega
    have hcount := h.setPollCnt (n := u.pollCnt + 1) fun n hn => ⟨(hlt n hn).le, fun _ => hlt n hn⟩
    exact hcount.goto hbusy hd (by rw [hi]; cases ch <;> rfl) nofun nofun fun _ => hlt
  | gainStored hs =>
    have hset : (u.setCfgGainIdx u.latTier).Inv := { h with }
    exact hset.respond (.inl rfl)
  | periodStored hs => exact (h.setCfgIPeriod (h.period hs)).respond (.inl rfl)

/-- A step of the command in progress keeps the invariant: its transaction is allowed, and the answer is used as
`AnsweredOk` says or ends the command. -/
theorem State.Inv.busy (h : s.Inv) (hbusy : s.seqState ≠ .idle) (hd : decode s.latchedWord = .ok i)
    (hex : exec i s = .next t) : t.Inv := by
  obtain ⟨x, hx, ⟨-, rfl⟩ | ⟨-, hans⟩⟩ := exec_busy_cases hbusy hex
  · exact (h.issue hx).respond (.inr rfl)
  · exact hans.inv (h.issue hx) hbusy hd

theorem State.Inv.sequencerStep (h : s.Inv) (hstep : sequencerStep s = .next t) : t.Inv := by
  obtain ⟨-, -, rfl⟩ | ⟨w, rest, e, -, -, -, rfl⟩ | ⟨w, rest, i, hq, -, -, hex⟩ | ⟨i, hq, hd, hex⟩ :=
    sequencerStep_cases hstep
  · exact h
  · exact (h.takeCommand w rest).respond (.inr rfl)
  · exact (h.takeCommand w rest).accept hq hex
  · exact h.busy hq hd hex

/-- Reset gives the invariant from well-formed parameters and allowed events, whatever the registers held. -/
theorem assertReset_inv (hp : s.params.wf = true) (hev : ∀ e ∈ s.trace, e.Allowed s.params) :
    s.assertReset.Inv where
  device := rfl
  mode := by rw [assertReset_cfgMode]; decide
  params := hp
  progress hq := absurd rfl hq
  gain := nofun
  period := nofun
  strictPeriod _ := by rw [assertReset_cfgIPeriod]; decide
  pollCount n _ := ⟨Nat.zero_le n, nofun⟩
  response := by simp
  events := hev

/-- Settles O44: the reset state is its own reset. -/
theorem resetStateMeetsTheInvariant : Obligations.ResetStateMeetsTheInvariant :=
  assertReset_inv (s := .reset) Params.default_wf nofun

/-- Settles O45: reset makes the invariant anew, and without it each kind of step keeps it. -/
theorem everyStepKeepsTheInvariant : Obligations.EveryStepKeepsTheInvariant := by
  intro s t h hstep
  obtain ⟨-, rfl⟩ | ⟨-, hseq⟩ := step_cases hstep
  · exact assertReset_inv h.params h.events
  · exact h.resetTick.sequencerStep hseq

/-! ## Progress -/

/-- In `IDLE` every command has its accept step (R80). -/
theorem exec_idle_completes (i : Instr) (hq : s.seqState = .idle) : ∃ t, exec i s = .next t := by
  have hstep := exec_commandStep i s
  generalize exec i s = o at hstep
  cases hstep with
  | accept => exact ⟨_, rfl⟩
  | bus hi => rw [hq, standsIn_idle] at hi; cases hi
  | stuck hbusy => exact absurd hq hbusy

theorem acceptStep_completes (w : CmdWord) (hq : s.seqState = .idle) : ∃ t, acceptStep w s = .next t := by
  unfold acceptStep
  cases decode w with
  | error e => exact ⟨_, rfl⟩
  | ok i => exact exec_idle_completes i hq

/-- Under the invariant the sequencer waits, accepts, or has the step of the command its latches hold. -/
theorem State.Inv.sequencerStep_completes (h : s.Inv) : ∃ t, Machine.sequencerStep s = .next t := by
  by_cases hq : s.seqState = .idle
  · cases hc : s.hostCmds with
    | nil => exact ⟨s, sequencerStep_wait hq hc⟩
    | cons w rest =>
      rw [sequencerStep_accept hq hc]
      exact acceptStep_completes w hq
  · obtain ⟨i, hd, hi, -⟩ := h.progress hq
    obtain ⟨x, t, -, ht, -⟩ := exec_of_standsIn hi
    exact ⟨t, (sequencerStep_busy hq hd).trans ht⟩

theorem State.Inv.step_completes (h : s.Inv) : ∃ t, step s = .next t := by
  cases hr : s.resetAsserted
  · rw [step_noReset hr]
    exact h.resetTick.sequencerStep_completes
  · exact ⟨_, step_reset hr⟩

end

/-- Settles O46, by induction on the length of the run: each step completes and keeps the invariant. -/
theorem noRunFromTheInvariantStops : Obligations.NoRunFromTheInvariantStops := by
  intro s h n
  induction n generalizing s with
  | zero => exact ⟨s, rfl⟩
  | succ n ih =>
    obtain ⟨t, ht⟩ := h.step_completes
    rw [run_step ht]
    exact ih t (everyStepKeepsTheInvariant s t h ht)

end Sys2Proof.Machine

namespace Sys2Proof.Machine

/-! ## Which registers a step writes (R56, R240, R280) -/

section
variable {i : Instr} {s t u : State}

/-- A step of the sequencer issues no transaction, or it is the answered step of the transaction due. -/
theorem sequencerStep_issued_or_answered (h : sequencerStep s = .next t) :
    Issued 0 s t ∨ ∃ i x, dueTransaction i s = some x ∧ Answered i (s.issue x) t := by
  obtain ⟨-, -, rfl⟩ | ⟨w, rest, e, -, -, -, rfl⟩ | ⟨w, rest, i, hq, -, -, hex⟩ | ⟨i, hq, -, hex⟩ :=
    sequencerStep_cases h
  · exact .inl (.none rfl rfl rfl)
  · exact .inl ((issued_takeCommand w rest s).trans (issued_respond _ .illegalCommand 0))
  · exact .inl ((issued_takeCommand w rest s).trans (exec_idle (s := s.takeCommand w rest) hq hex).issued)
  · obtain ⟨hidle, -⟩ | ⟨-, x, hx, hans⟩ := exec_cases hex
    · exact absurd hidle hq
    · exact .inr ⟨i, x, hx, hans⟩

/-- `sequencerStep_issued_or_answered` for any step: reset issues nothing. -/
theorem step_issued_or_answered (h : step s = .next t) :
    Issued 0 s t ∨ ∃ i x, dueTransaction i s = some x ∧ Answered i (s.resetTick.issue x) t := by
  obtain ⟨-, rfl⟩ | ⟨-, hseq⟩ := step_cases h
  · exact .inl (.none rfl rfl rfl)
  · exact sequencerStep_issued_or_answered (s := s.resetTick) hseq

/-- Only a write transaction has a write as its event. -/
theorem Transaction.eq_write_of_event {x : Transaction} {dev dev' : DevAddr} {d : BusDraw} {reg : RegAddr}
    {b : Byte} {ok : Bool} (h : .busW dev reg b ok = x.event dev' d) : x = .write reg b := by
  cases x <;> cases h
  rfl

/-- After the transaction's own event its step adds no write. -/
theorem Answered.adds_no_write (h : Answered i u t) :
    ∃ evs, t.trace = u.trace ++ evs ∧ ∀ dev reg b ok, Event.busW dev reg b ok ∉ evs := by
  obtain ⟨evs, htr, ⟨rfl, -⟩ | ⟨rfl, -⟩⟩ := h.events <;> exact ⟨_, htr, by simp⟩

/-- Every write a step adds to the trace is the transaction due in its control state. -/
theorem step_writes (h : step s = .next t) :
    ∃ evs, t.trace = s.trace ++ evs ∧
      ∀ dev reg b ok, Event.busW dev reg b ok ∈ evs → ∃ i, dueTransaction i s = some (.write reg b) := by
  obtain ⟨evs, htr, hcount, -, -⟩ | ⟨i, x, hx, hans⟩ := step_issued_or_answered h
  · exact ⟨evs, htr, fun dev reg b ok hmem => absurd rfl (List.countP_eq_zero.mp hcount _ hmem)⟩
  · obtain ⟨evs, htr, hnone⟩ := hans.adds_no_write
    refine ⟨x.event s.cfgDevAddr s.nextDraw :: evs, htr.trans (List.append_assoc ..), fun dev reg b ok hmem => ?_⟩
    obtain hhead | htail := List.mem_cons.mp hmem
    · exact ⟨i, Transaction.eq_write_of_event hhead ▸ hx⟩
    · exact absurd htail (hnone dev reg b ok)

end

/-- With the two OPEN addresses registers of their own, the rows of R56 that a write may go to are disjoint, and
none is a register the SRS only reads. -/
theorem Event.Allowed.write_of_wf {p : Params} {dev : DevAddr} {reg : RegAddr} {b : Byte} {ok : Bool}
    (hp : p.wf = true) (h : (Event.busW dev reg b ok).Allowed p) :
    (reg ≠ 0x004F ∧ reg ≠ 0x0050 ∧ reg ≠ 0x0051 ∧ reg ≠ 0x0062) ∧
      ((reg = 0x0018 ∨ reg = 0x0038) → b = 0x00 ∨ b = 0x01 ∨ b = 0x03) ∧
      (reg = 0x02A3 → b = 0x00 ∨ b = 0x01) ∧
      (reg = p.addrAlsGain → b.toNat ≤ 7) := by
  obtain ⟨-, hgain, hperiod, hne⟩ := p.wf_iff.mp hp
  have hfixed : ∀ a ∈ Config.fixedAddrs, a ≠ p.addrAlsGain := fun a ha heq => hgain (heq ▸ ha)
  simp only [Config.fixedAddrs, List.mem_cons, List.not_mem_nil, or_false, not_or, BitVec.ofNat_eq_ofNat]
    at hgain hperiod
  obtain ⟨-, ⟨rfl, hb⟩ | ⟨rfl, hb⟩ | ⟨rfl, hb⟩ | ⟨rfl, hb⟩ | rfl⟩ := h
  · exact ⟨by decide, fun _ => hb, nofun, fun heq => absurd heq (hfixed _ (by decide))⟩
  · exact ⟨by decide, fun _ => hb, nofun, fun heq => absurd heq (hfixed _ (by decide))⟩
  · exact ⟨by decide, nofun, fun _ => hb, fun heq => absurd heq (hfixed _ (by decide))⟩
  · simp [hgain, hb]
  · simp [hperiod, hne.symm]

/-- Settles O57: the step's one write is the transaction due, which the spec allows, and well-formed parameters
keep the rows apart. -/
theorem noStepWritesAReadOnlyRegister : Obligations.NoStepWritesAReadOnlyRegister := by
  intro s t hp h
  obtain ⟨evs, htr, hwrites⟩ := step_writes h
  refine ⟨evs, htr, fun dev reg b ok hmem => ?_⟩
  obtain ⟨i, hx⟩ := hwrites dev reg b ok hmem
  exact (dueTransaction_allowed hx s.nextDraw).write_of_wf hp

end Sys2Proof.Machine

namespace Sys2Proof

/-! ## The decoder and the encoder are inverse (R71 to R78) -/

/-- Settles O1: the packed fields of the command are the fields `decode` reads. -/
theorem decodeReadsBackEveryEncodedCommand : Obligations.DecodeReadsBackEveryEncodedCommand := decode_encode

/-- Settles O4: each word is the encoding of its command. -/
theorem writtenOutWordsDecode : Obligations.WrittenOutWordsDecode :=
  ⟨decode_encode .clrmodes, decode_encode .setmodeAss, decode_encode .setmodeIlv, decode_encode .rdrangeSs,
    decode_encode (.setgain 0x40000000), decode_encode (.setperiod 0xFFFFFFFF), decode_encode .rdalsCont⟩

/-! ### The fields of a word by arithmetic on its number (R71) -/

theorem opField_toNat (w : CmdWord) : (opField w).toNat = w.toNat % 16 := by
  simp [opField]

theorem modeField_toNat (w : CmdWord) : (modeField w).toNat = w.toNat / 2 ^ 4 % 8 := by
  simp [modeField, Nat.shiftRight_eq_div_pow]

theorem rsvField_toNat (w : CmdWord) : (rsvField w).toNat = w.toNat / 2 ^ 7 % 2 ^ 25 := by
  simp [rsvField, Nat.shiftRight_eq_div_pow]

theorem opndField_toNat (w : CmdWord) : (opndField w).toNat = w.toNat / 2 ^ 32 := by
  have hw := w.isLt
  simp only [opndField, BitVec.extractLsb'_toNat, Nat.shiftRight_eq_div_pow]
  omega

/-- A word is made of its four fields: none of its bits lies outside them (R71). -/
theorem packWord_fields (w : CmdWord) : packWord (opndField w) (rsvField w) (modeField w) (opField w) = w := by
  apply BitVec.eq_of_toNat_eq
  rw [packWord_toNat, opndField_toNat, rsvField_toNat, modeField_toNat, opField_toNat]
  omega

/-! ### The words that decode (R76 to R80) -/

/-- Every mode number but 7 spells a `SETM` (R75, R76). -/
theorem exists_decodeSetMode_eq_ok_iff (mode : BitVec 3) : (∃ i, decodeSetMode mode = .ok i) ↔ mode ≠ 7 := by
  unfold decodeSetMode
  split
  case h_8 => simp_all [BitVec.toNat_eq]; omega
  all_goals simp

/-- The opcodes and mode numbers that spell a command (R72, R75, R76, R78). -/
theorem exists_decodeOp_eq_ok_iff (op : BitVec 4) (mode : BitVec 3) (opnd : Word32) :
    (∃ i, decodeOp op mode opnd = .ok i) ↔ opcodeAssigned op = true ∧ ¬(op = 2 ∧ mode = 7) := by
  unfold decodeOp
  split
  case h_9 => simp_all [opcodeAssigned, BitVec.toNat_eq]; omega
  all_goals simp [opcodeAssigned, exists_decodeSetMode_eq_ok_iff]

/-- `decodeOp` gives the command whose opcode is `op`, whose mode number is `mode` if it is a `SETM`, and whose
operand is `opnd` if it has one. -/
theorem fields_of_decodeOp {op : BitVec 4} {mode : BitVec 3} {opnd : Word32} {i : Instr}
    (h : decodeOp op mode opnd = .ok i) :
    i.op = op ∧ i.modeBits = (if op = 2 then mode else 0) ∧
      i.opnd = (if op = 5 ∨ op = 6 then opnd else 0) := by
  unfold decodeOp at h
  split at h
  case h_2 =>
    unfold decodeSetMode at h
    split at h <;> cases h <;> exact ⟨rfl, rfl, rfl⟩
  all_goals cases h
  all_goals exact ⟨rfl, rfl, rfl⟩

/-- The checks of R80 that a word passes to be a command; those of its opcode and of the mode 7 are in `decodeOp`
too. -/
theorem decode_eq_ok_iff (w : CmdWord) (i : Instr) :
    decode w = .ok i ↔ rsvField w = 0 ∧ (opField w ≠ 2 → modeField w = 0) ∧
      (opField w ≠ 5 ∧ opField w ≠ 6 → opndField w = 0) ∧
      decodeOp (opField w) (modeField w) (opndField w) = .ok i := by
  have hop : decodeOp (opField w) (modeField w) (opndField w) = .ok i →
      opcodeAssigned (opField w) = true ∧ ¬(opField w = 2 ∧ modeField w = 7) :=
    fun h => (exists_decodeOp_eq_ok_iff ..).mp ⟨i, h⟩
  unfold decode
  grind

/-- Settles O2: the command's fields are those of the word, whose checked fields are 0 where the command has none,
and a word is made of its fields. -/
theorem encodeGivesBackEveryDecodedWord : Obligations.EncodeGivesBackEveryDecodedWord := by
  intro w i h
  obtain ⟨hrsv, hmode, hopnd, hdecode⟩ := (decode_eq_ok_iff w i).mp h
  obtain ⟨hiop, himode, hiopnd⟩ := fields_of_decodeOp hdecode
  have hm : i.modeBits = modeField w := himode.trans (ite_eq_left_iff.mpr fun hne => (hmode hne).symm)
  have ho : i.opnd = opndField w := hiopnd.trans (ite_eq_left_iff.mpr fun hne => (hopnd (not_or.mp hne)).symm)
  rw [encode, hiop, hm, ho, ← hrsv, packWord_fields]

/-- Settles O3: a word is legal if it passes the checks of `decode_eq_ok_iff`, each read as arithmetic on the word's
number. -/
theorem illegalWordsAreExactlyThoseOfTheRules : Obligations.IllegalWordsAreExactlyThoseOfTheRules := by
  intro w
  rw [← not_exists]
  simp only [decode_eq_ok_iff, exists_and_left, exists_decodeOp_eq_ok_iff, opcodeAssigned, decide_eq_true_eq,
    BitVec.toNat_eq, ne_eq, rsvField_toNat, opField_toNat, modeField_toNat, opndField_toNat,
    BitVec.ofNat_eq_ofNat, BitVec.toNat_ofNat]
  omega

end Sys2Proof

namespace Sys2Proof.Machine

/-! ## Assembling a printed command (R83) -/

/-- Neither a blank, nor a tab, nor the sign that starts a comment. -/
def PlainChar (c : Char) : Prop := c ≠ ' ' ∧ c ≠ '\t' ∧ c ≠ ';'

/-- What a line can hold as one of its words. -/
def Plain (u : List Char) : Prop := u ≠ [] ∧ ∀ c ∈ u, PlainChar c

/-- One character, read before the words `acc` that follow it. -/
def splitChar (c : Char) (acc : List (List Char)) : List (List Char) :=
  if c = ' ' ∨ c = '\t' then [] :: acc
  else match acc with
    | [] => [[c]]
    | w :: ws => (c :: w) :: ws

theorem lineWords_eq (line : List Char) : lineWords line =
    ((line.takeWhile (fun c => decide (c ≠ ';'))).foldr splitChar [[]]).filter (fun w => !w.isEmpty) := rfl

section
variable {u v : List Char}

/-- The characters of a plain word stay together. -/
theorem foldr_splitChar (hu : ∀ c ∈ u, PlainChar c) (w : List Char) (ws : List (List Char)) :
    u.foldr splitChar (w :: ws) = (u ++ w) :: ws := by
  induction u with
  | nil => rfl
  | cons c u ih =>
    obtain ⟨hblank, htab, -⟩ := hu c List.mem_cons_self
    rw [List.foldr_cons, ih fun c hc => hu c (List.mem_cons_of_mem _ hc)]
    simp [splitChar, hblank, htab]

/-- A blank parts two plain words. -/
theorem lineWords_plain_blank_plain (hu : Plain u) (hv : Plain v) : lineWords (u ++ ' ' :: v) = [u, v] := by
  obtain ⟨hune, huchars⟩ := hu
  obtain ⟨hvne, hvchars⟩ := hv
  have hsemicolon {c : Char} (hc : PlainChar c) : decide (c ≠ ';') = true := by
    obtain ⟨-, -, hne⟩ := hc
    exact decide_eq_true hne
  have hcomment : (u ++ ' ' :: v).takeWhile (fun c => decide (c ≠ ';')) = u ++ ' ' :: v := by
    rw [List.takeWhile_eq_self_iff]
    intro c hc
    rw [List.mem_append, List.mem_cons] at hc
    obtain hc | rfl | hc := hc
    · exact hsemicolon (huchars c hc)
    · decide
    · exact hsemicolon (hvchars c hc)
  rw [lineWords_eq, hcomment, List.foldr_append, List.foldr_cons, foldr_splitChar hvchars,
    List.append_nil, splitChar, if_pos (.inl rfl), foldr_splitChar huchars, List.append_nil]
  simp [hune, hvne]

end

/-! ### Hexadecimal operands -/

theorem hexValue_hexDigit {n : Nat} (h : n < 16) : hexValue (hexDigit n) = some n := by
  revert n
  decide

theorem hexDigit_plain {n : Nat} (h : n < 16) : PlainChar (hexDigit n) := by
  unfold PlainChar
  revert n
  decide

/-- Printed digits are read back as the number they spell. -/
theorem readDigits_map_hexDigit {ds : List Nat} (hds : ∀ d ∈ ds, d < 16) (acc : Nat) :
    readDigits hexValue 16 acc (ds.map hexDigit) = some (ds.foldl (fun a d => a * 16 + d) acc) := by
  induction ds generalizing acc with
  | nil => rfl
  | cons d ds ih =>
    rw [List.map_cons, readDigits, hexValue_hexDigit (hds d List.mem_cons_self), Option.bind_some,
      ih fun d hd => hds d (List.mem_cons_of_mem _ hd), List.foldl_cons]

/-- The eight hexadecimal digits of a word, most significant first. -/
def hexDigits (w : Word32) : List Nat := [28, 24, 20, 16, 12, 8, 4, 0].map (fun k => w.toNat / 2 ^ k % 16)

theorem hexDigits_lt (w : Word32) : ∀ d ∈ hexDigits w, d < 16 := by
  intro d hd
  obtain ⟨k, -, rfl⟩ := List.mem_map.mp hd
  exact Nat.mod_lt _ (by decide)

theorem foldl_hexDigits (w : Word32) : (hexDigits w).foldl (fun a d => a * 16 + d) 0 = w.toNat := by
  have hw := w.isLt
  simp only [hexDigits, List.map_cons, List.map_nil, List.foldl_cons, List.foldl_nil]
  omega

theorem printHex32_eq (w : Word32) : printHex32 w = '0' :: 'x' :: (hexDigits w).map hexDigit := by
  rw [hexDigits, List.map_map]
  rfl

theorem readHex32_printHex32 (w : Word32) : readHex32 (printHex32 w) = some w := by
  rw [printHex32_eq, readHex32, if_pos (by simp [hexDigits]), readDigits_map_hexDigit (hexDigits_lt w), foldl_hexDigits,
    Option.map_some, BitVec.ofNat_toNat, BitVec.setWidth_eq]

theorem printHex32_plain (w : Word32) : Plain (printHex32 w) := by
  rw [printHex32_eq]
  refine ⟨List.cons_ne_nil _ _, ?_⟩
  have hdigits : ∀ d ∈ hexDigits w, PlainChar (hexDigit d) := fun d hd => hexDigit_plain (hexDigits_lt w d hd)
  simpa [PlainChar] using hdigits

/-- `bits(...)` holds a hexadecimal operand (R83). -/
theorem readGain_bits (cs : List Char) :
    readGain ('b' :: 'i' :: 't' :: 's' :: '(' :: (cs ++ [')'])) = readHex32 cs := by
  simp [readGain]

theorem readPeriod_printHex32 (w : Word32) : readPeriod (printHex32 w) = some w := by
  rw [readPeriod, readHex32_printHex32]

/-- The operand of a printed `SETG` is plain. -/
theorem bits_plain (w : Word32) : Plain ('b' :: 'i' :: 't' :: 's' :: '(' :: (printHex32 w ++ [')'])) := by
  refine ⟨List.cons_ne_nil _ _, ?_⟩
  obtain ⟨-, hhex⟩ := printHex32_plain w
  simpa [PlainChar, or_imp, forall_and] using hhex

/-- A line of two words is a mnemonic and its operand. -/
theorem assembleLine_operand {u v : List Char} (hu : Plain u) (hv : Plain v) :
    assembleLine (u ++ ' ' :: v) = assembleWords [u, v] := by
  rw [assembleLine, lineWords_plain_blank_plain hu hv]

theorem kwSetgain_plain : Plain kwSetgain := by simp [Plain, PlainChar, kwSetgain]

theorem kwSetperiod_plain : Plain kwSetperiod := by simp [Plain, PlainChar, kwSetperiod]

theorem assembleLine_setgain (w : Word32) : assembleLine (printLine (.setgain w)) = some (.setgain w) := by
  have hline : printLine (.setgain w) =
      kwSetgain ++ ' ' :: 'b' :: 'i' :: 't' :: 's' :: '(' :: (printHex32 w ++ [')']) := by
    simp [printLine]
  rw [hline, assembleLine_operand kwSetgain_plain (bits_plain w)]
  change (readGain _).map Instr.setgain = _
  rw [readGain_bits, readHex32_printHex32]
  rfl

theorem assembleLine_setperiod (w : Word32) : assembleLine (printLine (.setperiod w)) = some (.setperiod w) := by
  have hline : printLine (.setperiod w) = kwSetperiod ++ ' ' :: printHex32 w := by
    simp [printLine]
  rw [hline, assembleLine_operand kwSetperiod_plain (printHex32_plain w)]
  change (readPeriod _).map Instr.setperiod = _
  rw [readPeriod_printHex32]
  rfl

/-- Settles O5: an operand's eight digits are read back, and the lines of the other commands are fixed. -/
theorem printedCommandsAssembleToThemselves : Obligations.PrintedCommandsAssembleToThemselves := by
  intro i
  cases i with
  | setgain w => exact assembleLine_setgain w
  | setperiod w => exact assembleLine_setperiod w
  | _ => decide

end Sys2Proof.Machine

namespace Sys2Proof.Machine

/-! ## The accept step (R80, R81) -/

section
variable {i : Instr} {s t : State} {w : CmdWord} {rest : List CmdWord}

/-- In `IDLE` without reset, a step takes the next word from the port and runs its accept step. -/
theorem step_accept (hq : s.seqState = .idle) (hr : s.resetIn.headD false = false) (hc : s.hostCmds = w :: rest) :
    step s = acceptStep w (s.resetTick.takeCommand w rest) := by
  rw [step_noReset hr]
  exact sequencerStep_accept (s := s.resetTick) hq hc

theorem acceptStep_ok (hd : decode w = .ok i) : acceptStep w s = exec i s := by rw [acceptStep, hd]

theorem acceptStep_error {e : Illegal} (hd : decode w = .error e) :
    acceptStep w s = .next (s.respond .illegalCommand 0) := by
  rw [acceptStep, hd]
  rfl

/-- A command that ends at its accept step requests no mode, and its status is `UNIMPLEMENTED` or
`INVALID_PARAMETER` (R170, R171, R201, R212). -/
theorem exec_refused (hq : s.seqState = .idle) (h : exec i s = .next t) (ht : t.seqState = .idle) :
    i.requestedMode = none ∧ (t.rspStatus = 5 ∨ t.rspStatus = 2) := by
  cases i with
  | clrmodes => rw [exec, execClrmodes, hq] at h; cases h; cases ht
  | setmodeRss | setmodeAss | setmodeAcont | setmodeRcont | setmodeRcontAss | setmodeRssAcont | setmodeIlv =>
    replace h : setModeStep _ _ _ s = .next t := h
    rw [setModeStep, hq] at h; cases h; cases ht
  | rdrangeSs | rdalsSs =>
    replace h : measureStep _ _ _ _ s = .next t := h
    rw [measureStep, hq] at h; cases h; cases ht
  | rdrangeCont | rdalsCont =>
    replace h : unimplementedStep _ s = .next t := h
    rw [unimplementedStep, hq] at h; cases h; exact ⟨rfl, .inl rfl⟩
  | setgain x =>
    rw [exec, execSetgain, hq] at h
    obtain ⟨-, -, hacc⟩ | ⟨-, hacc⟩ := acceptGain_cases (s.latch (.setgain x)) <;> rw [hacc] at h <;> cases h
    · exact ⟨rfl, .inr rfl⟩
    · cases ht
  | setperiod ms =>
    rw [exec, execSetperiod, hq] at h
    obtain ⟨-, -, hacc⟩ | ⟨-, hacc⟩ := acceptPeriod_cases (s.latch (.setperiod ms)) <;> rw [hacc] at h <;> cases h
    · exact ⟨rfl, .inr rfl⟩
    · cases ht

end

/-- Settles O6: `step_accept`, and the word is the command's. -/
theorem stepRunsTheAcceptedCommand : Obligations.StepRunsTheAcceptedCommand := by
  intro s w rest i hq hr hc hd
  exact (step_accept hq hr hc).trans (acceptStep_ok hd)

/-- Settles O8: the accept step of a word that decodes to an error is the response alone. -/
theorem illegalWordAnswersIllegalCommand : Obligations.IllegalWordAnswersIllegalCommand := by
  intro s w rest hq hr hc hno
  cases hd : decode w with
  | ok i => exact absurd hd (hno i)
  | error e =>
    rw [step_accept hq hr hc, acceptStep_error hd]
    simp [State.respond, State.takeCommand, State.emit, State.resetTick, Status.code, hq]

/-- Settles O12: the accept step completes, and `Accepted` gives every field of its next state; what a refused
command may be is `exec_refused`. -/
theorem acceptStepLatchesTheCommand : Obligations.AcceptStepLatchesTheCommand := by
  intro i s hq
  obtain ⟨t, ht⟩ := exec_idle_completes i hq
  obtain ⟨hop, hmode, -, hopnd⟩ := Laws.EncodedFields.of_pack i
  have hrefused := exec_refused hq ht
  refine ⟨t, ht, ?_⟩
  rw [hop, hmode, hopnd]
  cases exec_idle hq ht with
  | start q tier hi =>
    exact ⟨rfl, rfl, rfl, rfl, rfl, rfl, rfl, rfl, rfl, rfl, rfl, rfl, rfl, .inl ⟨hi, rfl, rfl, rfl⟩⟩
  | refuse st =>
    obtain ⟨hnone, hst⟩ := hrefused rfl
    rw [hnone]
    exact ⟨rfl, rfl, rfl, rfl, rfl, rfl, rfl, rfl, rfl, rfl, rfl, rfl, rfl, .inr ⟨rfl, rfl, rfl, hst⟩⟩

end Sys2Proof.Machine

namespace Sys2Proof.Machine

/-! ## The steps of the Mode Controller (R101 to R103, R110, R120 to R126) -/

/-- `CLRM` and the seven `SETM`. -/
def modeCommands : List Instr := .clrmodes :: setModeTable.map Prod.fst

/-- The fields of a `SETM` command are those of its row. -/
theorem setModeTable_fields : ∀ row ∈ setModeTable, row.1 ∈ modeCommands ∧ row.1.op = 2 ∧
    row.1.modeBits = row.2.1 ∧ row.1.opnd = 0 ∧ row.1.requestedMode = some row.2.1 ∧
    row.1.terminalWrite = row.2.2 := by decide

/-- A mode command is `CLRM`, or a `SETM` that runs `setModeStep` with the mode it requests and its own terminal
write. -/
theorem modeCommand_cases {i : Instr} (hi : i ∈ modeCommands) :
    i = .clrmodes ∨ ∃ m : Mode, i.requestedMode = some m.code ∧ ∀ s, exec i s = setModeStep i m i.terminalWrite s := by
  cases i with
  | clrmodes => exact .inl rfl
  | setmodeRss | setmodeAss | setmodeAcont | setmodeRcont | setmodeRcontAss | setmodeRssAcont | setmodeIlv =>
    exact .inr ⟨_, rfl, fun _ => rfl⟩
  | setgain | setperiod | rdrangeSs | rdalsSs | rdrangeCont | rdalsCont => simp [modeCommands, setModeTable] at hi

section
variable {i : Instr} {s : State} (hi : i ∈ modeCommands)
include hi

/-- The accept step of a mode command. -/
theorem exec_modeCommand_idle (hq : s.seqState = .idle) :
    exec i s = .next { s.latch i with cfgMode := i.requestedMode.getD s.cfgMode, seqState := .clr0 } := by
  obtain rfl | ⟨m, hm, hex⟩ := modeCommand_cases hi
  · rw [exec, execClrmodes, hq]; rfl
  · rw [hex, setModeStep, hq, hm]; rfl

/-- Past its accept step `CLRM`, too, runs `setModeStep`. -/
theorem exec_modeCommand_busy (hbusy : s.seqState ≠ .idle) : ∃ m, exec i s = setModeStep i m i.terminalWrite s := by
  obtain rfl | ⟨m, -, hex⟩ := modeCommand_cases hi
  · refine ⟨.interleaved, ?_⟩
    rw [exec, execClrmodes, setModeStep]
    cases hq : s.seqState with
    | idle => exact absurd hq hbusy
    | _ => rfl
  · exact ⟨m, hex s⟩

theorem exec_modeCommand_clr0 (hq : s.seqState = .clr0) : exec i s = writeStep 0x0018 0x00 (State.goto .clr1) s := by
  obtain ⟨m, hex⟩ := exec_modeCommand_busy hi (hq.trans_ne nofun)
  rw [hex, setModeStep, hq]
  rfl

theorem exec_modeCommand_clr1 (hq : s.seqState = .clr1) : exec i s = writeStep 0x0038 0x00 (State.goto .clr2) s := by
  obtain ⟨m, hex⟩ := exec_modeCommand_busy hi (hq.trans_ne nofun)
  rw [hex, setModeStep, hq]
  rfl

theorem exec_modeCommand_clr2 (hq : s.seqState = .clr2) :
    exec i s = writeStep 0x02A3 0x00 (afterClear i.terminalWrite) s := by
  obtain ⟨m, hex⟩ := exec_modeCommand_busy hi (hq.trans_ne nofun)
  rw [hex, setModeStep, hq]
  rfl

theorem exec_modeCommand_mwr {w : RegAddr × Byte} (hw : i.terminalWrite = some w) (hq : s.seqState = .mwr) :
    exec i s = writeStep w.1 w.2 (State.respondOk 0) s := by
  obtain ⟨m, hex⟩ := exec_modeCommand_busy hi (hq.trans_ne nofun)
  rw [hex, setModeStep, hq, hw]
  rfl

end

/-! ### The steps whose write is answered `ok` -/

/-- The state after the write `w`, answered `ok`. -/
def State.okWrite (w : RegAddr × Byte) (s : State) : State := s.afterBus [.busW s.cfgDevAddr w.1 w.2 true]

theorem writeStep_eq_okWrite {s : State} {reg : RegAddr} {b : Byte} {done : State → State}
    (ha : s.nextDraw.ack = true) : writeStep reg b done s = .next (done (s.okWrite (reg, b))) := by
  rw [writeStep_ok ha, memWrite_ok reg b ha]
  rfl

/-- The response after an answered write, in one record. -/
theorem respondOk_okWrite (s : State) (w : RegAddr × Byte) : (s.okWrite w).respondOk 0 =
    { s.afterBus [.busW s.cfgDevAddr w.1 w.2 true, .resp 0 0] with
      seqState := .idle, rspStatus := 0, rspResult := 0 } := respond_afterBus s _ .ok 0

/-- Settles O16: `CLRM` is a mode command without a requested mode and without a terminal write. -/
theorem clrmodesSteps : Obligations.ClrmodesSteps := by
  intro s
  have hi : Instr.clrmodes ∈ modeCommands := by decide
  refine ⟨exec_modeCommand_idle hi, fun hq ha => ?_, fun hq ha => ?_, fun hq ha => ?_⟩
  · exact (exec_modeCommand_clr0 hi hq).trans (writeStep_eq_okWrite ha)
  · exact (exec_modeCommand_clr1 hi hq).trans (writeStep_eq_okWrite ha)
  · rw [exec_modeCommand_clr2 hi hq, writeStep_eq_okWrite ha]
    exact congrArg _ (respondOk_okWrite s _)

/-- Settles O17: the clear sequence is every mode command's, and the terminal write decides what `CLR2` leads
to. -/
theorem setModeSteps : Obligations.SetModeSteps := by
  intro row hrow s
  obtain ⟨hi, hop, hmode, hopnd, hreq, hT⟩ := setModeTable_fields row hrow
  refine ⟨fun hq => ?_, fun hq ha => ?_, fun hq ha => ?_, fun hq ha hnone => ?_, fun hq ha hsome => ?_,
    fun reg b hq ha hw => ?_⟩
  · rw [exec_modeCommand_idle hi hq, State.latch, hop, hmode, hopnd, hreq]
    rfl
  · exact (exec_modeCommand_clr0 hi hq).trans (writeStep_eq_okWrite ha)
  · exact (exec_modeCommand_clr1 hi hq).trans (writeStep_eq_okWrite ha)
  · rw [exec_modeCommand_clr2 hi hq, writeStep_eq_okWrite ha, hT, hnone]
    exact congrArg _ (respondOk_okWrite s _)
  · obtain ⟨w, hw⟩ := Option.ne_none_iff_exists'.mp hsome
    rw [exec_modeCommand_clr2 hi hq, writeStep_eq_okWrite ha, hT, hw]
    rfl
  · rw [exec_modeCommand_mwr hi (hT.trans hw) hq, writeStep_eq_okWrite ha, respondOk_okWrite]

end Sys2Proof.Machine

namespace Sys2Proof.Machine

/-! ## Whole runs of the Mode Controller (R110, R120 to R128, R289)

A mode command in progress has a list of writes before it. `run_okWrites` and `run_failedWrite` say what the run
over that list gives: every write answered `ok`, or the first `k` of them and then a `fail`. -/

/-- The reset input without entries stays so. -/
theorem resetTick_of_resetIn_nil {s : State} (hr : s.resetIn = []) : s.resetTick = s := by
  ext1 <;> simp [hr]

/-! ### The coming answers of the oracle -/

/-- The oracle's answer to the transaction that is issued after `k` others. -/
def State.drawAt (s : State) (k : Nat) : BusDraw := s.busAnswers[k]?.getD (Config.freeDraw (s.drawCount + k))

theorem drawAt_zero (s : State) : s.drawAt 0 = s.nextDraw := by
  cases h : s.busAnswers <;> simp [State.drawAt, State.nextDraw, h]

theorem drawAt_okWrite_goto (s : State) (w : RegAddr × Byte) (q : SeqState) (k : Nat) :
    ((s.okWrite w).goto q).drawAt k = s.drawAt (k + 1) := by
  simp [State.drawAt, State.okWrite, State.afterBus, Nat.add_assoc, Nat.add_comm 1 k]

/-! ### Writes answered `ok` -/

/-- The state after the writes `ws`, each answered `ok`. -/
def State.okWrites (ws : List (RegAddr × Byte)) (s : State) : State :=
  { s with
    trace := s.trace ++ ws.map (fun w => .busW s.cfgDevAddr w.1 w.2 true)
    busAnswers := s.busAnswers.drop ws.length
    drawCount := s.drawCount + ws.length }

@[simp] theorem okWrites_trace (s : State) (ws : List (RegAddr × Byte)) : (s.okWrites ws).trace =
    s.trace ++ ws.map (fun w => .busW s.cfgDevAddr w.1 w.2 true) := rfl

@[simp] theorem okWrites_cfgDevAddr (s : State) (ws : List (RegAddr × Byte)) :
    (s.okWrites ws).cfgDevAddr = s.cfgDevAddr := rfl

@[simp] theorem okWrites_busAnswers (s : State) (ws : List (RegAddr × Byte)) :
    (s.okWrites ws).busAnswers = s.busAnswers.drop ws.length := rfl

theorem okWrites_nil (s : State) : s.okWrites [] = s := by simp [State.okWrites]

theorem okWrites_singleton (s : State) (w : RegAddr × Byte) : s.okWrites [w] = s.okWrite w := by
  simp [State.okWrites, State.okWrite, State.afterBus]

theorem okWrites_cons_goto (w : RegAddr × Byte) (ws : List (RegAddr × Byte)) (s : State) (q : SeqState) :
    ((s.okWrite w).goto q).okWrites ws = (s.okWrites (w :: ws)).goto q := by
  simp [State.okWrites, State.okWrite, State.afterBus, State.goto, Nat.add_assoc, Nat.add_comm 1]

/-- The state after the write `w`, answered `fail` (R236). -/
def State.failedWrite (w : RegAddr × Byte) (s : State) : State :=
  (s.afterBus [.busW s.cfgDevAddr w.1 w.2 false]).respond .transportFailure 0

@[simp] theorem failedWrite_trace (s : State) (w : RegAddr × Byte) :
    (s.failedWrite w).trace = s.trace ++ [.busW s.cfgDevAddr w.1 w.2 false, .resp 1 0] := List.append_assoc ..

theorem failedWrite_trace_getLast? (s : State) (w : RegAddr × Byte) :
    (s.failedWrite w).trace.getLast? = some (.resp 1 0) := by simp

@[simp] theorem failedWrite_busAnswers (s : State) (w : RegAddr × Byte) :
    (s.failedWrite w).busAnswers = s.busAnswers.tail := rfl

/-- A response ends the command in whatever control state it was. -/
theorem respond_goto (s : State) (q : SeqState) (st : Status) (r : Word32) :
    (s.goto q).respond st r = s.respond st r := rfl

theorem failedWrite_goto (s : State) (q : SeqState) (w : RegAddr × Byte) :
    (s.goto q).failedWrite w = s.failedWrite w := rfl

/-! ### A mode command in progress -/

/-- The clear sequence (R101), then the terminal write where there is one (R103). -/
def modeWrites (i : Instr) : List (RegAddr × Byte) :=
  (0x0018, 0x00) :: (0x0038, 0x00) :: (0x02A3, 0x00) :: i.terminalWrite.toList

/-- The writes of `modeWrites` that a mode command in this control state has not issued (R30). -/
def writesLeft (i : Instr) : SeqState → List (RegAddr × Byte)
  | .clr0 => modeWrites i
  | .clr1 => (modeWrites i).drop 1
  | .clr2 => (modeWrites i).drop 2
  | .mwr => i.terminalWrite.toList
  | .idle | .trig | .poll | .res | .gwr | .pwr => []

/-- The latches hold the command `i`, the writes `ws` are before it, and reset is not asserted any more. -/
structure State.ModeInProgress (i : Instr) (ws : List (RegAddr × Byte)) (s : State) : Prop where
  latched : s.latchedWord = encode i
  resetIn : s.resetIn = []
  left : writesLeft i s.seqState = ws

section
variable {i : Instr} {s : State} {w w' : RegAddr × Byte} {ws : List (RegAddr × Byte)}

theorem State.ModeInProgress.busy (h : s.ModeInProgress i (w :: ws)) : s.seqState ≠ .idle := by
  intro hq
  have hleft := h.left
  rw [hq] at hleft
  cases hleft

/-- The step of a mode command in progress is its command's. -/
theorem State.ModeInProgress.step_eq (h : s.ModeInProgress i (w :: ws)) : step s = exec i s := by
  have hstep := stepRunsTheLatchedCommand s i h.busy (by rw [h.resetIn]; rfl)
    ((congrArg decode h.latched).trans (decode_encode i))
  rw [hstep]
  exact congrArg _ (resetTick_of_resetIn_nil h.resetIn)

/-- A mode command in progress takes the step of the first write before it, and an `ok` answer leads to the writes
after it, or to the response where there is none (R30). -/
theorem State.ModeInProgress.step_eq_writeStep (hi : i ∈ modeCommands) (h : s.ModeInProgress i (w :: ws)) :
    ∃ done, step s = writeStep w.1 w.2 done s ∧
      ((ws = [] ∧ done = State.respondOk 0) ∨ ∃ q, ws ≠ [] ∧ done = State.goto q ∧ writesLeft i q = ws) := by
  have hleft := h.left
  rw [h.step_eq]
  cases hq : s.seqState with rw [hq] at hleft
  | idle | trig | poll | res | gwr | pwr => cases hleft
  | clr0 => cases hleft; exact ⟨_, exec_modeCommand_clr0 hi hq, .inr ⟨.clr1, nofun, rfl, rfl⟩⟩
  | clr1 => cases hleft; exact ⟨_, exec_modeCommand_clr1 hi hq, .inr ⟨.clr2, nofun, rfl, rfl⟩⟩
  | clr2 =>
    cases hleft
    refine ⟨_, exec_modeCommand_clr2 hi hq, ?_⟩
    cases hw : i.terminalWrite with
    | none => exact .inl ⟨rfl, rfl⟩
    | some t => exact .inr ⟨.mwr, nofun, rfl, congrArg Option.toList hw⟩
  | mwr =>
    cases hw : i.terminalWrite with rw [writesLeft, hw] at hleft
    | none => cases hleft
    | some t => cases hleft; exact ⟨_, exec_modeCommand_mwr hi hw hq, .inl ⟨rfl, rfl⟩⟩

/-- A write that is not the last, answered `ok`, leaves the writes after it. -/
theorem State.ModeInProgress.step_ok (hi : i ∈ modeCommands) (h : s.ModeInProgress i (w :: w' :: ws))
    (ha : s.nextDraw.ack = true) :
    ∃ q, step s = .next ((s.okWrite w).goto q) ∧ ((s.okWrite w).goto q).ModeInProgress i (w' :: ws) := by
  obtain ⟨done, hstep, ⟨hnil, -⟩ | ⟨q, -, rfl, hleft⟩⟩ := h.step_eq_writeStep hi
  · cases hnil
  · exact ⟨q, hstep.trans (writeStep_eq_okWrite ha), h.latched, h.resetIn, hleft⟩

/-- After its last write, answered `ok`, a mode command responds `OK`. -/
theorem State.ModeInProgress.step_last (hi : i ∈ modeCommands) (h : s.ModeInProgress i [w])
    (ha : s.nextDraw.ack = true) : step s = .next ((s.okWrite w).respond .ok 0) := by
  obtain ⟨done, hstep, ⟨-, rfl⟩ | ⟨q, hne, -⟩⟩ := h.step_eq_writeStep hi
  · exact hstep.trans (writeStep_eq_okWrite ha)
  · exact absurd rfl hne

/-- A write answered `fail` ends a mode command (R128, R236). -/
theorem State.ModeInProgress.step_fail (hi : i ∈ modeCommands) (h : s.ModeInProgress i (w :: ws))
    (ha : s.nextDraw.ack = false) : step s = .next (s.failedWrite w) := by
  obtain ⟨done, hstep, -⟩ := h.step_eq_writeStep hi
  rw [hstep, writeStep_fail ha, memWrite_fail w.1 w.2 ha]
  rfl

/-- All writes before a mode command answered `ok`: one step a write, and the response `OK`. -/
theorem State.ModeInProgress.run_okWrites (hi : i ∈ modeCommands) (h : s.ModeInProgress i (w :: ws))
    (hok : ∀ k < ws.length + 1, (s.drawAt k).ack = true) :
    Host.Core.run core (ws.length + 1) s = .next ((s.okWrites (w :: ws)).respond .ok 0) := by
  have ha : (s.drawAt 0).ack = true := hok 0 (Nat.succ_pos _)
  rw [drawAt_zero] at ha
  induction ws generalizing s w with
  | nil =>
    rw [List.length_nil, run_step (h.step_last hi ha), okWrites_singleton]
    rfl
  | cons w' ws ih =>
    obtain ⟨q, hstep, hnext⟩ := h.step_ok hi ha
    have hok' : ∀ k < ws.length + 1, (((s.okWrite w).goto q).drawAt k).ack = true := fun k hk => by
      rw [drawAt_okWrite_goto]
      exact hok (k + 1) (Nat.succ_lt_succ hk)
    rw [List.length_cons, run_step hstep, ih hnext hok' (drawAt_zero _ ▸ hok' 0 (Nat.succ_pos _)),
      okWrites_cons_goto, respond_goto]

/-- The first `k` writes before a mode command answered `ok` and the next one `fail`: no later write is issued. -/
theorem State.ModeInProgress.run_failedWrite (hi : i ∈ modeCommands) (h : s.ModeInProgress i ws) {k : Nat}
    (hk : k < ws.length) (hok : ∀ j < k, (s.drawAt j).ack = true) (hfail : (s.drawAt k).ack = false) :
    Host.Core.run core (k + 1) s = .next ((s.okWrites (ws.take k)).failedWrite ws[k]) := by
  induction k generalizing s ws with
  | zero =>
    cases ws with
    | nil => cases hk
    | cons w ws =>
      rw [run_step (h.step_fail hi (drawAt_zero s ▸ hfail)), List.take_zero, okWrites_nil]
      rfl
  | succ k ih =>
    obtain _ | ⟨w, _ | ⟨w', ws⟩⟩ := ws
    · cases hk
    · simp at hk
    · obtain ⟨q, hstep, hnext⟩ := h.step_ok hi (drawAt_zero s ▸ hok 0 (Nat.succ_pos k))
      rw [run_step hstep, ih hnext (Nat.lt_of_succ_lt_succ hk)
          (fun j hj => by rw [drawAt_okWrite_goto]; exact hok _ (Nat.succ_lt_succ hj))
          (by rw [drawAt_okWrite_goto]; exact hfail), okWrites_cons_goto, failedWrite_goto]
      rfl

end
end Sys2Proof.Machine

namespace Sys2Proof.Machine

/-! ### A mode command from its submission -/

/-- The state after the accept step of the mode command `i`, the next of the host's words (R80, R102). -/
def State.started (i : Instr) (rest : List CmdWord) (s : State) : State :=
  { (s.takeCommand (encode i) rest).latch i with
    cfgMode := i.requestedMode.getD s.cfgMode
    seqState := .clr0 }

@[simp] theorem started_trace (s : State) (i : Instr) (rest : List CmdWord) :
    (s.started i rest).trace = s.trace ++ [.accept (encode i)] := rfl

@[simp] theorem started_cfgDevAddr (s : State) (i : Instr) (rest : List CmdWord) :
    (s.started i rest).cfgDevAddr = s.cfgDevAddr := rfl

@[simp] theorem started_busAnswers (s : State) (i : Instr) (rest : List CmdWord) :
    (s.started i rest).busAnswers = s.busAnswers := rfl

section
variable {i : Instr} {s : State} {rest : List CmdWord}

theorem started_modeInProgress (i : Instr) (hr : s.resetIn = []) (rest : List CmdWord) :
    (s.started i rest).ModeInProgress i (modeWrites i) := ⟨rfl, hr, rfl⟩

variable (hi : i ∈ modeCommands) (hq : s.seqState = .idle) (hr : s.resetIn = [])
  (hc : s.hostCmds = encode i :: rest)
include hi hq hr hc

theorem step_modeCommand_idle : step s = .next (s.started i rest) := by
  rw [step_accept hq (by rw [hr]; rfl) hc, resetTick_of_resetIn_nil hr, acceptStep_ok (decode_encode i)]
  exact exec_modeCommand_idle (s := s.takeCommand (encode i) rest) hi hq

theorem run_modeCommand_ok (hok : ∀ k < (modeWrites i).length, (s.drawAt k).ack = true) :
    Host.Core.run core ((modeWrites i).length + 1) s =
      .next (((s.started i rest).okWrites (modeWrites i)).respond .ok 0) := by
  rw [run_step (step_modeCommand_idle hi hq hr hc)]
  exact (started_modeInProgress i hr rest).run_okWrites hi hok

theorem run_modeCommand_fail {k : Nat} (hk : k < (modeWrites i).length) (hok : ∀ j < k, (s.drawAt j).ack = true)
    (hfail : (s.drawAt k).ack = false) :
    Host.Core.run core (k + 2) s =
      .next (((s.started i rest).okWrites ((modeWrites i).take k)).failedWrite (modeWrites i)[k]) := by
  rw [run_step (step_modeCommand_idle hi hq hr hc)]
  exact (started_modeInProgress i hr rest).run_failedWrite hi hk hok hfail

end

/-! ### Runs whose answers all stand in the state -/

section
variable {i : Instr} {s : State} {rest : List CmdWord} {oks more : List BusDraw}

theorem drawAt_ack_of_oks (hb : s.busAnswers = oks ++ more) (hoks : ∀ d ∈ oks, d.ack = true) :
    ∀ k < oks.length, (s.drawAt k).ack = true := by
  intro k hk
  have hd : s.drawAt k = oks[k] := by simp [State.drawAt, hb, List.getElem?_append_left hk, hk]
  exact hd ▸ hoks _ (List.getElem_mem hk)

theorem drawAt_oks_length {bad : BusDraw} (hb : s.busAnswers = oks ++ bad :: more) :
    s.drawAt oks.length = bad := by simp [State.drawAt, hb]

/-- The events of a mode command whose writes are all answered `ok` (R110). -/
def okRunEvents (i : Instr) (dev : DevAddr) : List Event :=
  .accept (encode i) :: ((modeWrites i).map (fun w => .busW dev w.1 w.2 true) ++ [.resp 0 0])

/-- The whole run of a mode command with `ok` answers, its end in one record. -/
theorem run_modeCommand_of_oks (hi : i ∈ modeCommands) (hq : s.seqState = .idle) (hr : s.resetIn = [])
    (hc : s.hostCmds = encode i :: rest) (hb : s.busAnswers = oks ++ more) (hoks : ∀ d ∈ oks, d.ack = true)
    (hlen : oks.length = (modeWrites i).length) :
    Host.Core.run core (oks.length + 1) s = .next ({ s with
      hostCmds := rest, latOp := i.op, latMode := i.modeBits, latOpnd := i.opnd,
      cfgMode := i.requestedMode.getD s.cfgMode, rspStatus := 0, rspResult := 0,
      busAnswers := more, drawCount := s.drawCount + oks.length,
      trace := s.trace ++ okRunEvents i s.cfgDevAddr } : State) := by
  have hok := drawAt_ack_of_oks hb hoks
  have hmore : s.busAnswers.drop oks.length = more := by rw [hb, List.drop_left]
  rw [hlen] at hok hmore ⊢
  rw [run_modeCommand_ok hi hq hr hc hok]
  refine congrArg _ ?_
  simp [State.started, State.takeCommand, State.emit, State.latch, State.okWrites, State.respond, okRunEvents,
    Status.code, hq, hmore]

end

/-- The command that a word of the mode table spells, with its fields. -/
theorem exists_setMode_of_row {w : CmdWord} {m : BitVec 3} {T : Terminal}
    (h : ∃ e ∈ setModeTable, e.2 = (m, T) ∧ decode w = .ok e.1) :
    ∃ i ∈ modeCommands, w = encode i ∧ i.op = 2 ∧ i.modeBits = m ∧ i.opnd = 0 ∧ i.requestedMode = some m ∧
      i.terminalWrite = T := by
  obtain ⟨e, he, hfields, hword⟩ := h
  obtain ⟨hi, hop, hmode, hopnd, hreq, hT⟩ := setModeTable_fields e he
  rw [hfields] at hmode hreq hT
  exact ⟨e.1, hi, (encodeGivesBackEveryDecodedWord _ _ hword).symm, hop, hmode, hopnd, hreq, hT⟩

/-- Settles O18: the run of the mode command with three writes and no requested mode. -/
theorem clrmodesRunsToItsResponse : Obligations.ClrmodesRunsToItsResponse := by
  intro s rest a b c more hq hr hcmds hbus ha hb hc
  exact run_modeCommand_of_oks (i := .clrmodes) (oks := [a, b, c]) (by decide) hq hr hcmds hbus
    (by simp [ha, hb, hc]) rfl

/-- Settles O19: the run of a mode command without a terminal write. -/
theorem singleShotModesRunToTheirResponse : Obligations.SingleShotModesRunToTheirResponse := by
  intro row hrow s rest a b c more hq hr hcmds hbus ha hb hc
  have hsetm : ∃ e ∈ setModeTable, e.2 = (row.2, none) ∧ decode row.1 = .ok e.1 := by
    simp only [List.mem_cons, List.not_mem_nil, or_false] at hrow
    obtain rfl | rfl := hrow <;> decide
  obtain ⟨i, hi, hword, hop, hmode, hopnd, hreq, hT⟩ := exists_setMode_of_row hsetm
  rw [hword] at hcmds ⊢
  have hrun := run_modeCommand_of_oks (oks := [a, b, c]) hi hq hr hcmds hbus (by simp [ha, hb, hc])
    (by rw [modeWrites, hT]; rfl)
  rw [okRunEvents, modeWrites, hop, hmode, hopnd, hreq, hT] at hrun
  exact hrun

/-- Settles O20: the run of a mode command with a terminal write. -/
theorem continuousModesRunToTheirResponse : Obligations.ContinuousModesRunToTheirResponse := by
  intro row hrow s rest a b c d more hq hr hcmds hbus ha hb hc hd
  have hsetm : ∃ e ∈ setModeTable, e.2 = (row.2.1, some row.2.2) ∧ decode row.1 = .ok e.1 := by
    simp only [List.mem_cons, List.not_mem_nil, or_false] at hrow
    obtain rfl | rfl | rfl | rfl | rfl := hrow <;> decide
  obtain ⟨i, hi, hword, hop, hmode, hopnd, hreq, hT⟩ := exists_setMode_of_row hsetm
  rw [hword] at hcmds ⊢
  have hrun := run_modeCommand_of_oks (oks := [a, b, c, d]) hi hq hr hcmds hbus (by simp [ha, hb, hc, hd])
    (by rw [modeWrites, hT]; rfl)
  rw [okRunEvents, modeWrites, hop, hmode, hopnd, hreq, hT] at hrun
  exact hrun

end Sys2Proof.Machine

namespace Sys2Proof.Machine

/-! ### A write that fails (R128) -/

/-- The events of writes of which the last alone is answered `fail`, from the list of all answers. -/
theorem map_zip_acks {ws : List (RegAddr × Byte)} {oks : List BusDraw} {bad : BusDraw} (hlen : oks.length < ws.length)
    (hoks : ∀ d ∈ oks, d.ack = true) (hbad : bad.ack = false) (f : RegAddr × Byte → Bool → Event) :
    ((ws.take (oks.length + 1)).zip ((oks ++ [bad]).map BusDraw.ack)).map (fun w => f w.1 w.2) =
      (ws.take oks.length).map (fun w => f w true) ++ [f ws[oks.length] false] := by
  induction oks generalizing ws with
  | nil =>
    obtain ⟨w, ws, rfl⟩ := List.exists_cons_of_length_pos hlen
    simp [hbad]
  | cons d oks ih =>
    obtain ⟨w, ws, rfl⟩ := List.exists_cons_of_length_pos (Nat.zero_lt_of_lt hlen)
    obtain ⟨hd, hoks⟩ := List.forall_mem_cons.mp hoks
    simpa [hd] using ih (Nat.lt_of_succ_lt_succ hlen) hoks

/-- Settles O22: the run to the first failed write, its answers read from the state. -/
theorem failedWriteStopsASetModeWhereItFails : Obligations.FailedWriteStopsASetModeWhereItFails := by
  intro row hrow s rest oks bad more hq hr hcmds hbus hoks hbad hlen
  have hsetm : ∃ e ∈ setModeTable, e.2 = (row.2.1, some row.2.2) ∧ decode row.1 = .ok e.1 := by
    simp only [List.mem_cons, List.not_mem_nil, or_false] at hrow
    obtain rfl | rfl | rfl | rfl | rfl := hrow <;> decide
  obtain ⟨i, hi, hword, -, -, -, hreq, hT⟩ := exists_setMode_of_row hsetm
  have hwrites : modeWrites i = [(0x0018, 0x00), (0x0038, 0x00), (0x02A3, 0x00), row.2.2] := by
    rw [modeWrites, hT]; rfl
  have hk : oks.length < (modeWrites i).length := by rw [hwrites]; exact Nat.lt_succ_of_le hlen
  rw [hword] at hcmds
  have hrun := run_modeCommand_fail hi hq hr hcmds hk (drawAt_ack_of_oks hbus hoks)
    (by rw [drawAt_oks_length hbus, hbad])
  rw [Nat.add_comm 2]
  refine ⟨_, hrun, rfl, congrArg (Option.getD · s.cfgMode) hreq, rfl, rfl, rfl, rfl, ?_, ?_⟩
  · have htake : ((modeWrites i).take oks.length).length = oks.length := List.length_take_of_le hk.le
    simp [htake, hbus]
  · rw [← hwrites, hword, map_zip_acks hk hoks hbad (fun w ok => .busW s.cfgDevAddr w.1 w.2 ok)]
    simp

/-! ### The host's words over a run -/

section
variable {i : Instr} {s t : State}

theorem exec_hostCmds (h : exec i s = .next t) : t.hostCmds = s.hostCmds := by
  obtain ⟨-, hacc⟩ | ⟨-, x, -, hans⟩ := exec_cases h
  · cases hacc <;> rfl
  · obtain ⟨-, -, -, -, -, -, -, -, -, hcmds, -⟩ := hans.frame
    exact hcmds

/-- Without reset the sequencer takes the next word in `IDLE`, and no word elsewhere (R246). -/
theorem sequencerStep_hostCmds (h : sequencerStep s = .next t) :
    t.hostCmds = if s.seqState = .idle then s.hostCmds.tail else s.hostCmds := by
  obtain ⟨hq, hc, rfl⟩ | ⟨w, rest, e, hq, hc, -, rfl⟩ | ⟨w, rest, i, hq, hc, -, hex⟩ | ⟨i, hq, -, hex⟩ :=
    sequencerStep_cases h
  · rw [if_pos hq, hc]; rfl
  · rw [if_pos hq, hc]; rfl
  · rw [if_pos hq, hc]; exact exec_hostCmds hex
  · rw [if_neg hq]; exact exec_hostCmds hex

/-- No step gives the host a word. -/
theorem step_hostCmds_length_le (h : step s = .next t) : t.hostCmds.length ≤ s.hostCmds.length := by
  obtain ⟨-, rfl⟩ | ⟨-, hseq⟩ := step_cases h
  · exact le_rfl
  · rw [sequencerStep_hostCmds hseq]
    split
    · exact (List.tail_sublist _).length_le
    · exact le_rfl

/-- A run that completes begins with a step that does. -/
theorem exists_step_of_run {n : Nat} (h : Host.Core.run core (n + 1) s = .next t) :
    ∃ u, step s = .next u ∧ Host.Core.run core n u = .next t := by
  have hstep : core.step s = step s := rfl
  rw [run_unfold core n s, hstep] at h
  cases hs : step s with rw [hs] at h
  | next u => exact ⟨u, rfl, h⟩
  | fault r => cases h
  | refused r => cases h

theorem run_hostCmds_length_le {n : Nat} (h : Host.Core.run core n s = .next t) :
    t.hostCmds.length ≤ s.hostCmds.length := by
  induction n generalizing s with
  | zero => cases h; exact le_rfl
  | succ n ih =>
    obtain ⟨u, hu, hrun⟩ := exists_step_of_run h
    exact (ih hrun).trans (step_hostCmds_length_le hu)

/-- From `IDLE`, a run that takes no word from the host waits. -/
theorem run_idle_eq_self {n : Nat} (hq : s.seqState = .idle) (hr : s.resetIn = [])
    (h : Host.Core.run core n s = .next t) (hcmds : t.hostCmds = s.hostCmds) : t = s := by
  have hseq : step s = sequencerStep s := by
    rw [step_noReset (by rw [State.resetAsserted, hr]; rfl), resetTick_of_resetIn_nil hr]
  induction n with
  | zero => cases h; rfl
  | succ n ih =>
    obtain ⟨u, hu, hrun⟩ := exists_step_of_run h
    rw [hseq] at hu
    cases hc : s.hostCmds with
    | nil =>
      cases (sequencerStep_wait hq hc).symm.trans hu
      exact ih hrun
    | cons w rest =>
      have hle := run_hostCmds_length_le hrun
      rw [sequencerStep_hostCmds hu, if_pos hq, hcmds, hc] at hle
      simp at hle

end

/-! ### The registers a whole run leaves written (R127) -/

/-- A mode command that answers `OK` in its last step had every write answered `ok`. -/
theorem trace_of_run_respondedOk {i : Instr} {s t : State} {rest : List CmdWord} (hi : i ∈ modeCommands)
    (hq : s.seqState = .idle) (hr : s.resetIn = []) (hc : s.hostCmds = encode i :: rest)
    (hrun : Host.Core.run core ((modeWrites i).length + 1) s = .next t)
    (hlast : t.trace.getLast? = some (.resp 0 0)) (hcmds : t.hostCmds = rest) :
    t.trace = s.trace ++ okRunEvents i s.cfgDevAddr := by
  by_cases hok : ∀ k < (modeWrites i).length, (s.drawAt k).ack = true
  · cases (run_modeCommand_ok hi hq hr hc hok).symm.trans hrun
    simp [State.respond, Status.code, okRunEvents]
  · push Not at hok
    obtain ⟨hk, hfail⟩ := Nat.find_spec hok
    set k := Nat.find hok
    have hbefore : ∀ j < k, (s.drawAt j).ack = true := fun j hj =>
      not_not.mp fun hne => Nat.find_min hok hj ⟨hj.trans hk, hne⟩
    have hfirst := run_modeCommand_fail hi hq hr hc hk hbefore (Bool.eq_false_iff.mpr hfail)
    obtain ⟨n, hn⟩ : ∃ n, (modeWrites i).length + 1 = k + 2 + n := Nat.exists_eq_add_of_le (Nat.succ_le_succ hk)
    rw [hn, run_add hfirst] at hrun
    cases run_idle_eq_self (s := ((s.started i rest).okWrites _).failedWrite _) rfl hr hrun hcmds
    cases (failedWrite_trace_getLast? ..).symm.trans hlast

theorem lastWritten_okRunEvents (reg : RegAddr) (i : Instr) (dev : DevAddr) :
    lastWritten reg (okRunEvents i dev) =
      (modeWrites i).foldl (fun last w => if w.1 = reg then some w.2 else last) none := by
  simp [lastWritten, okRunEvents, List.foldl_map]

theorem countP_isBus_okRunEvents (i : Instr) (dev : DevAddr) :
    (okRunEvents i dev).countP Event.isBus = (modeWrites i).length := by
  simp [okRunEvents, List.countP_append, Event.isBus, List.countP_map, Function.comp_def]

/-- Settles O21: the run was answered `ok` throughout, and its writes are the command's list. -/
theorem lastWrittenModeRegistersByMode : Obligations.LastWrittenModeRegistersByMode := by
  intro row hrow s rest t hq hr hcmds hrun hlast hrest
  have hsetm : ∃ i ∈ modeCommands, decode row.1 = .ok i ∧ row.2.1 = (modeWrites i).length + 1 ∧
      lastWritten 0x0018 (okRunEvents i 0) = some row.2.2.1 ∧
      lastWritten 0x0038 (okRunEvents i 0) = some row.2.2.2.1 ∧
      lastWritten 0x02A3 (okRunEvents i 0) = some row.2.2.2.2 := by
    simp only [List.mem_cons, List.not_mem_nil, or_false] at hrow
    obtain rfl | rfl | rfl | rfl | rfl | rfl | rfl := hrow <;> decide
  obtain ⟨i, hi, hdec, hlen, hrange, hals, hilv⟩ := hsetm
  rw [← encodeGivesBackEveryDecodedWord _ _ hdec] at hcmds
  rw [hlen] at hrun ⊢
  rw [trace_of_run_respondedOk hi hq hr hcmds hrun hlast hrest, List.drop_left]
  simp only [lastWritten_okRunEvents] at hrange hals hilv ⊢
  exact ⟨hrange, hals, hilv, countP_isBus_okRunEvents i _⟩

end Sys2Proof.Machine

namespace Sys2Proof.Machine

/-! ## Rounding to the nearest natural number

`roundHalfEven` keeps order and common factors, and no natural number is nearer to the quotient. -/

theorem roundHalfEven_mul_left {c : Nat} (hc : 0 < c) (n d : Nat) :
    roundHalfEven (c * n) (c * d) = roundHalfEven n d := by
  have hlt : c * d < 2 * (c * (n % d)) ↔ d < 2 * (n % d) := by
    rw [Nat.mul_left_comm, Nat.mul_lt_mul_left hc]
  have heq : 2 * (c * (n % d)) = c * d ↔ 2 * (n % d) = d := by
    rw [Nat.mul_left_comm, Nat.mul_right_inj hc.ne']
  simp only [roundHalfEven, Nat.mul_div_mul_left _ _ hc, Nat.mul_mod_mul_left, hlt, heq]

theorem roundHalfEven_mul_self {d : Nat} (hd : 0 < d) (k : Nat) : roundHalfEven (k * d) d = k := by
  simp [roundHalfEven, Nat.mul_div_cancel _ hd, hd.ne]

/-- The result is the quotient's whole part or the number after it, by the remainder. -/
theorem roundHalfEven_cases (n d : Nat) :
    (roundHalfEven n d = n / d ∧ 2 * (n % d) ≤ d ∧ (2 * (n % d) = d → n / d % 2 = 0)) ∨
    (roundHalfEven n d = n / d + 1 ∧ d ≤ 2 * (n % d) ∧ (2 * (n % d) = d → n / d % 2 = 1)) := by
  by_cases h : d < 2 * (n % d) ∨ (2 * (n % d) = d ∧ n / d % 2 = 1)
  · exact .inr ⟨if_pos h, by omega, by omega⟩
  · exact .inl ⟨if_neg h, by omega, by omega⟩

theorem roundHalfEven_mono {n n' d : Nat} (h : n ≤ n') : roundHalfEven n d ≤ roundHalfEven n' d := by
  have hm := roundHalfEven_cases n d
  have hm' := roundHalfEven_cases n' d
  have hn := Nat.div_add_mod n d
  have hn' := Nat.div_add_mod n' d
  obtain hq | hq := (Nat.div_le_div_right (c := d) h).eq_or_lt
  · have hrem : n % d ≤ n' % d := by
      rw [hq] at hn
      omega
    omega
  · omega

theorem roundHalfEven_le {n d k : Nat} (hd : 0 < d) (h : n ≤ k * d) : roundHalfEven n d ≤ k :=
  (roundHalfEven_mono h).trans_eq (roundHalfEven_mul_self hd k)

theorem le_roundHalfEven {n d k : Nat} (hd : 0 < d) (h : k * d ≤ n) : k ≤ roundHalfEven n d :=
  (roundHalfEven_mul_self hd k).symm.trans_le (roundHalfEven_mono h)

/-- How far `a` is from `n`. -/
def distTo (n a : Nat) : Nat := ((a : Int) - n).natAbs

/-- No multiple of `d` is nearer to `n` than the rounded one, and another one as near leaves it even. -/
theorem roundHalfEven_nearest {d : Nat} (hd : 0 < d) (n k : Nat) :
    distTo n (roundHalfEven n d * d) ≤ distTo n (k * d) ∧
    (distTo n (roundHalfEven n d * d) = distTo n (k * d) →
      k ≠ roundHalfEven n d → roundHalfEven n d % 2 = 0) := by
  have hn : n / d * d + n % d = n := Nat.div_add_mod' n d
  have hr := Nat.mod_lt n hd
  have hsucc : (n / d + 1) * d = n / d * d + d := Nat.succ_mul _ d
  have hle {a b : Nat} (h : a ≤ b) : a * d ≤ b * d := Nat.mul_le_mul_right d h
  have hlt {a b : Nat} (h : a < b) : a * d + d ≤ b * d := (Nat.succ_mul a d).symm.trans_le (hle h)
  unfold distTo
  obtain ⟨hround, hhalf, htie⟩ | ⟨hround, hhalf, htie⟩ := roundHalfEven_cases n d <;> rw [hround]
  · obtain hk | rfl | hk := Nat.lt_trichotomy k (n / d)
    · have := hlt hk
      omega
    · omega
    · have : (n / d + 1) * d ≤ k * d := hle hk
      omega
  · obtain hk | rfl | hk := Nat.lt_trichotomy k (n / d + 1)
    · have := hle (Nat.le_of_lt_succ hk)
      omega
    · omega
    · have := hlt hk
      omega

/-- What is as near to `n` as `b` is nearer than `a`, where `a < b ≤ n`. -/
theorem distTo_lt_of_lt {a b n r : Nat} (hab : a < b) (hb : b ≤ n) (hr : distTo n r ≤ distTo n b) :
    distTo n r < distTo n a := by
  unfold distTo at *
  omega

/-! ## `RNE32` by its last place and its significand (R15) -/

/-- The exponent of the last place of `RNE32(n / d)`, in units of `2^-149`. -/
def lastPlace (n d : Nat) : Nat := binadeOf (n * 2 ^ 149 / d) - 1

/-- The significand of `RNE32(n / d)`, in units of the last place. -/
def significand (n d : Nat) : Nat := roundHalfEven (n * 2 ^ 149) (d * 2 ^ lastPlace n d)

theorem rne32_toNat (n d : Nat) :
    (rne32 n d).toNat = min (lastPlace n d * 2 ^ 23 + significand n d) 0x7F800000 := by
  rw [rne32, BitVec.toNat_ofNat]
  exact Nat.mod_eq_of_lt ((min_le_right ..).trans_lt (by decide))

theorem rne32_toNat_of_finite {n d : Nat} (h : (rne32 n d).toNat < 0x7F800000) :
    (rne32 n d).toNat = lastPlace n d * 2 ^ 23 + significand n d := by
  rw [rne32_toNat, min_lt_iff, or_iff_left (lt_irrefl _)] at h
  rw [rne32_toNat, min_eq_left h.le]

/-- `RNE32` is of the quotient: a common factor changes nothing. -/
theorem rne32_mul_left {c : Nat} (hc : 0 < c) (n d : Nat) : rne32 (c * n) (c * d) = rne32 n d := by
  simp only [rne32, Nat.mul_assoc, Nat.mul_div_mul_left _ _ hc, roundHalfEven_mul_left hc]

theorem rne32_zero (d : Nat) : rne32 0 d = 0 := by
  simp [rne32, roundHalfEven, binadeOf]

theorem lt_binadeOf (v : Nat) : v < 2 ^ 24 * 2 ^ (binadeOf v - 1) := by
  unfold binadeOf
  split
  next hv => exact hv
  next hv =>
    have hlog : 24 ≤ Nat.log2 v := (Nat.le_log2 (by omega)).mpr (not_lt.mp hv)
    rw [← pow_add, show 24 + (Nat.log2 v - 22 - 1) = Nat.log2 v + 1 by omega]
    exact Nat.lt_log2_self

theorem binadeOf_sub_one_eq_zero_or_le (v : Nat) : binadeOf v - 1 = 0 ∨ 2 ^ 23 * 2 ^ (binadeOf v - 1) ≤ v := by
  unfold binadeOf
  split
  next => exact .inl rfl
  next hv =>
    have hlog : 24 ≤ Nat.log2 v := (Nat.le_log2 (by omega)).mpr (not_lt.mp hv)
    rw [← pow_add, show 23 + (Nat.log2 v - 22 - 1) = Nat.log2 v by omega]
    exact .inr (Nat.log2_self_le (by omega))

section
variable {n d n' d' : Nat} (hd : 0 < d)
include hd

theorem lastPlace_unit_pos : 0 < d * 2 ^ lastPlace n d := Nat.mul_pos hd (Nat.two_pow_pos _)

/-- The quotient is below `2^24` last places. -/
theorem lt_lastPlace : n * 2 ^ 149 < 2 ^ 24 * (d * 2 ^ lastPlace n d) := by
  have hlt := lt_binadeOf (n * 2 ^ 149 / d)
  rwa [Nat.div_lt_iff_lt_mul hd, Nat.mul_assoc, Nat.mul_comm _ d] at hlt

/-- The quotient is at or above `2^23` last places, but for the subnormals' last place. -/
theorem lastPlace_eq_zero_or_le : lastPlace n d = 0 ∨ 2 ^ 23 * (d * 2 ^ lastPlace n d) ≤ n * 2 ^ 149 := by
  have hge := binadeOf_sub_one_eq_zero_or_le (n * 2 ^ 149 / d)
  rwa [Nat.le_div_iff_mul_le hd, Nat.mul_assoc, Nat.mul_comm _ d] at hge

theorem significand_le : significand n d ≤ 2 ^ 24 :=
  roundHalfEven_le (lastPlace_unit_pos hd) (lt_lastPlace hd).le

theorem significand_normal : lastPlace n d = 0 ∨ 2 ^ 23 ≤ significand n d :=
  (lastPlace_eq_zero_or_le hd).imp_right (le_roundHalfEven (lastPlace_unit_pos hd))

theorem lastPlace_mono (h : n ≤ n') : lastPlace n d ≤ lastPlace n' d := by
  by_contra! hlt
  have hpow : 2 * 2 ^ lastPlace n' d ≤ 2 ^ lastPlace n d :=
    (Nat.pow_succ' ..).symm.trans_le (Nat.pow_le_pow_right Nat.two_pos hlt)
  refine lt_irrefl (n * 2 ^ 149) ?_
  calc n * 2 ^ 149 ≤ n' * 2 ^ 149 := Nat.mul_le_mul_right _ h
    _ < 2 ^ 24 * (d * 2 ^ lastPlace n' d) := lt_lastPlace hd
    _ = 2 ^ 23 * (d * (2 * 2 ^ lastPlace n' d)) := by ring
    _ ≤ 2 ^ 23 * (d * 2 ^ lastPlace n d) := Nat.mul_le_mul_left _ (Nat.mul_le_mul_left _ hpow)
    _ ≤ n * 2 ^ 149 := (lastPlace_eq_zero_or_le hd).resolve_left (Nat.ne_zero_of_lt hlt)

/-- For one denominator, `RNE32` keeps the order of the numerators. -/
theorem rne32_mono_left (h : n ≤ n') : (rne32 n d).toNat ≤ (rne32 n' d).toNat := by
  have hle := significand_le (n := n) hd
  have hge := significand_normal (n := n') hd
  rw [rne32_toNat, rne32_toNat]
  refine min_le_min_right _ ?_
  obtain heq | hlt := (lastPlace_mono hd h).eq_or_lt
  · have hsig : significand n d ≤ significand n' d := by
      rw [significand, significand, heq]
      exact roundHalfEven_mono (Nat.mul_le_mul_right _ h)
    omega
  · omega

/-- `RNE32` keeps the order of the quotients. -/
theorem rne32_mono (hd' : 0 < d') (h : n * d' ≤ n' * d) : (rne32 n d).toNat ≤ (rne32 n' d').toNat := by
  rw [← rne32_mul_left hd' n d, ← rne32_mul_left hd n' d', Nat.mul_comm d' d]
  exact rne32_mono_left (Nat.mul_pos hd hd') (by rwa [Nat.mul_comm d', Nat.mul_comm d])

end

/-! ## Magnitudes of the patterns at or above zero -/

section
variable {x y : Word32}

theorem f32Mag_lt (x : Word32) : f32Mag x < 2 ^ 23 * 2 ^ f32Exp x := by
  have hfrac : f32Frac x < 2 ^ 23 := (x.extractLsb' 0 23).isLt
  unfold f32Mag
  split
  next h => rwa [h]
  next h =>
    obtain ⟨e, he⟩ := Nat.exists_eq_succ_of_ne_zero h
    rw [he, Nat.succ_sub_one, Nat.pow_succ (m := e), Nat.mul_comm _ 2, ← Nat.mul_assoc]
    exact Nat.mul_lt_mul_of_pos_right (by omega) (Nat.two_pow_pos e)

theorem le_f32Mag (h : f32Exp x ≠ 0) : 2 ^ 23 * 2 ^ (f32Exp x - 1) ≤ f32Mag x := by
  rw [f32Mag, if_neg h]
  exact Nat.mul_le_mul_right _ (Nat.le_add_right ..)

/-- The pattern of a significand `sig` with the last place `k` has that value; a significand of `2^24` is the
next binade's least. -/
theorem f32Mag_of_significand {k sig : Nat} (hx : x.toNat = k * 2 ^ 23 + sig) (hfin : x.toNat < 0x7F800000)
    (hle : sig ≤ 2 ^ 24) (hnormal : k = 0 ∨ 2 ^ 23 ≤ sig) : f32Mag x = sig * 2 ^ k := by
  have hexp := f32Exp_eq x
  have hfrac := f32Frac_eq x
  obtain hsub | ⟨hge, hlt⟩ | heq : sig < 2 ^ 23 ∨ (2 ^ 23 ≤ sig ∧ sig < 2 ^ 24) ∨ sig = 2 ^ 24 := by omega
  · have hk : k = 0 := by omega
    rw [f32Mag, if_pos (by omega), hk]
    omega
  · rw [f32Mag, if_neg (by omega), show f32Exp x - 1 = k by omega, show 2 ^ 23 + f32Frac x = sig by omega]
  · rw [f32Mag, if_neg (by omega), show f32Exp x - 1 = k + 1 by omega, show f32Frac x = 0 by omega, heq]
    ring

/-- Pattern order is value order. -/
theorem f32Mag_lt_f32Mag (hlt : x.toNat < y.toNat) (hy : y.toNat < 0x7F800000) : f32Mag x < f32Mag y := by
  have hxe := f32Exp_eq x
  have hye := f32Exp_eq y
  obtain heq | hlt : f32Exp x = f32Exp y ∨ f32Exp x < f32Exp y := by omega
  · have hfrac : f32Frac x < f32Frac y := by
      rw [f32Frac_eq, f32Frac_eq]
      omega
    unfold f32Mag
    rw [heq]
    split
    · exact hfrac
    · exact Nat.mul_lt_mul_of_pos_right (by omega) (Nat.two_pow_pos _)
  · calc f32Mag x < 2 ^ 23 * 2 ^ f32Exp x := f32Mag_lt x
      _ ≤ 2 ^ 23 * 2 ^ (f32Exp y - 1) := Nat.mul_le_mul_left _ (Nat.pow_le_pow_right Nat.two_pos (by omega))
      _ ≤ f32Mag y := le_f32Mag (by omega)

theorem f32Mag_injective (hx : x.toNat < 0x7F800000) (hy : y.toNat < 0x7F800000) (h : f32Mag x = f32Mag y) :
    x = y := by
  obtain hlt | heq | hlt := Nat.lt_trichotomy x.toNat y.toNat
  · exact absurd h (f32Mag_lt_f32Mag hlt hy).ne
  · exact BitVec.eq_of_toNat_eq heq
  · exact absurd h (f32Mag_lt_f32Mag hlt hx).ne'

/-- A finite value is a multiple of the last place `2^k`, or it is below the binade of that place. -/
theorem f32Mag_multiple_or_lt (x : Word32) (k : Nat) :
    (∃ m, f32Mag x = m * 2 ^ k) ∨ (k ≠ 0 ∧ f32Mag x < 2 ^ 23 * 2 ^ k) := by
  obtain hge | hlt := Nat.lt_or_ge k (f32Exp x)
  · refine .inl ⟨(2 ^ 23 + f32Frac x) * 2 ^ (f32Exp x - 1 - k), ?_⟩
    rw [f32Mag, if_neg (by omega), Nat.mul_assoc, ← pow_add, show f32Exp x - 1 - k + k = f32Exp x - 1 by omega]
  · obtain rfl | hk := Nat.eq_zero_or_pos k
    · exact .inl ⟨f32Mag x, by simp⟩
    · exact .inr ⟨hk.ne', (f32Mag_lt x).trans_le (Nat.mul_le_mul_left _ (Nat.pow_le_pow_right Nat.two_pos hlt))⟩

end

/-! ## `RNE32` is the nearest binary32 value (R15) -/

section
variable {n d : Nat} (hd : 0 < d) (hfin : (rne32 n d).toNat < 0x7F800000)
include hd hfin

theorem f32Mag_rne32 : f32Mag (rne32 n d) = significand n d * 2 ^ lastPlace n d :=
  f32Mag_of_significand (rne32_toNat_of_finite hfin) hfin (significand_le hd) (significand_normal hd)

theorem rne32_nearest (y : Word32) (hy : y.toNat < 0x7F800000) :
    distTo (n * 2 ^ 149) (f32Mag (rne32 n d) * d) ≤ distTo (n * 2 ^ 149) (f32Mag y * d) ∧
    (distTo (n * 2 ^ 149) (f32Mag (rne32 n d) * d) = distTo (n * 2 ^ 149) (f32Mag y * d) →
      y ≠ rne32 n d → (rne32 n d).toNat % 2 = 0) := by
  have hmag := f32Mag_rne32 hd hfin
  have hunit : ∀ m, m * 2 ^ lastPlace n d * d = m * (d * 2 ^ lastPlace n d) := fun m => by ring
  have heven : significand n d % 2 = 0 → (rne32 n d).toNat % 2 = 0 := by
    rw [rne32_toNat_of_finite hfin]
    omega
  have hnear := roundHalfEven_nearest (lastPlace_unit_pos (n := n) hd) (n * 2 ^ 149)
  rw [hmag, hunit]
  obtain ⟨m, hm⟩ | ⟨hk, hlt⟩ := f32Mag_multiple_or_lt y (lastPlace n d)
  · rw [hm, hunit]
    refine ⟨(hnear m).1, fun heq hne => heven ((hnear m).2 heq fun hsig => hne ?_)⟩
    exact f32Mag_injective hy hfin (by rw [hm, hmag, hsig, significand])
  · have hge := (lastPlace_eq_zero_or_le hd).resolve_left hk
    have hlt := Nat.mul_lt_mul_of_pos_right hlt hd
    rw [hunit] at hlt
    have hfar := distTo_lt_of_lt hlt hge (hnear (2 ^ 23)).1
    exact ⟨hfar.le, fun heq => absurd heq hfar.ne⟩

end

/-! ## The lux conversion (R160, R162) -/

theorem tierFraction_eq (i : TierIdx) : tierFraction i = tierValue i := by
  revert i
  decide

theorem tierValue_bounds (i : TierIdx) :
    0 < (tierValue i).2 ∧ (tierValue i).2 ≤ (tierValue i).1 ∧ (tierValue i).1 ≤ 100 * (tierValue i).2 := by
  revert i
  decide

section
variable {t : Word32} (ht : 1 ≤ t.toInt)
include ht

theorem toInt_eq_toNat_of_pos : t.toInt = t.toNat := by
  rw [BitVec.toInt_eq_toNat_cond] at ht ⊢
  have := t.isLt
  split at ht <;> omega

theorem toNat_lt_of_toInt_pos : t.toNat < 2 ^ 31 := by
  have h : t.toInt < 2 ^ 31 := BitVec.toInt_lt
  rw [toInt_eq_toNat_of_pos ht] at h
  omega

theorem toNat_pos_of_toInt_pos : 1 ≤ t.toNat := by
  rw [toInt_eq_toNat_of_pos ht] at ht
  omega

theorem luxRef_eq (raw : BitVec 16) (i : TierIdx) :
    luxRef raw i t = rne32 (32 * raw.toNat * (tierFraction i).2) ((tierFraction i).1 * t.toNat) := by
  rw [luxRef, tierFraction_eq, toInt_eq_toNat_of_pos ht, Int.toNat_natCast]

theorem lux_denominator_pos (i : TierIdx) : 0 < (tierFraction i).1 * t.toNat := by
  obtain ⟨hpos, hle, -⟩ := tierValue_bounds i
  rw [tierFraction_eq]
  exact Nat.mul_pos (hpos.trans_le hle) (toNat_pos_of_toInt_pos ht)

/-- The greatest quotient is that of the greatest raw value, tier 1.0 and a period of 1. -/
theorem luxRef_le (raw : BitVec 16) (i : TierIdx) : (luxRef raw i t).toNat ≤ 0x49FFFF00 := by
  have hmax : (rne32 2097120 1).toNat = 0x49FFFF00 := by decide
  obtain ⟨-, htier, -⟩ := tierValue_bounds i
  rw [luxRef_eq ht, ← hmax]
  refine rne32_mono (lux_denominator_pos ht i) Nat.one_pos ?_
  rw [Nat.mul_one, tierFraction_eq]
  have hraw : 32 * raw.toNat ≤ 2097120 := by omega
  have ht' := toNat_pos_of_toInt_pos ht
  calc 32 * raw.toNat * (tierValue i).2 ≤ 2097120 * (tierValue i).1 := Nat.mul_le_mul hraw htier
    _ ≤ 2097120 * ((tierValue i).1 * t.toNat) := Nat.mul_le_mul_left _ (Nat.le_mul_of_pos_right _ ht')

theorem luxRef_finite (raw : BitVec 16) (i : TierIdx) : (luxRef raw i t).toNat < 0x7F800000 :=
  (luxRef_le ht raw i).trans_lt (by decide)

/-- No quotient but 0 is below `2^-33`, which is a normal number. -/
theorem le_luxRef {raw : BitVec 16} (hraw : raw ≠ 0) (i : TierIdx) :
    0x00800000 ≤ (luxRef raw i t).toNat := by
  have hmin : 0x00800000 ≤ (rne32 1 (2 ^ 33)).toNat := by decide
  have hpos : 1 ≤ raw.toNat := Nat.pos_of_ne_zero fun h => hraw (BitVec.eq_of_toNat_eq h)
  obtain ⟨-, -, htier⟩ := tierValue_bounds i
  rw [luxRef_eq ht]
  refine hmin.trans (rne32_mono (Nat.two_pow_pos 33) (lux_denominator_pos ht i) ?_)
  rw [Nat.one_mul, tierFraction_eq]
  calc (tierValue i).1 * t.toNat ≤ 100 * (tierValue i).2 * 2 ^ 31 :=
        Nat.mul_le_mul htier (toNat_lt_of_toInt_pos ht).le
    _ ≤ 32 * (tierValue i).2 * 2 ^ 33 := by omega
    _ ≤ 32 * raw.toNat * (tierValue i).2 * 2 ^ 33 := by gcongr; omega

end

/-- Settles O39: `LuxRef` is `RNE32` of the quotient, and stays finite. -/
theorem luxRefIsTheNearestBinary32 : Obligations.LuxRefIsTheNearestBinary32 := by
  intro raw i t y ht hy n d r
  have hnear := rne32_nearest (lux_denominator_pos ht i) (luxRef_eq ht raw i ▸ luxRef_finite ht raw i) y hy
  rw [← luxRef_eq ht] at hnear
  unfold distTo at hnear
  push_cast at hnear
  exact hnear

/-- Settles O40: a quotient of 0 rounds to 0. -/
theorem luxOfZeroIsZero : Obligations.LuxOfZeroIsZero := by
  intro i t ht
  simp [luxRef_eq ht, rne32_zero]

/-- Settles O41: a raw value of at least 1 lies between the bounds of `le_luxRef` and `luxRef_le`. -/
theorem luxRefIsZeroOrNormalAndBounded : Obligations.LuxRefIsZeroOrNormalAndBounded := by
  intro raw i t ht
  refine ⟨luxRef_le ht raw i, ?_⟩
  by_cases hraw : raw = 0
  · have hzero : luxRef raw i t = 0 := hraw ▸ luxOfZeroIsZero i t ht
    exact ⟨.inl hzero, iff_of_true hzero hraw⟩
  · have hnormal := le_luxRef ht hraw i
    have hne : luxRef raw i t ≠ 0 := fun h => by
      rw [h] at hnormal
      exact absurd hnormal (by decide)
    exact ⟨.inr hnormal, iff_of_false hne hraw⟩

/-- Settles O42: where some finite value is at distance 0 from the quotient, so is the nearest one, and values of
different patterns differ. -/
theorem luxRefIsExactWhereRepresentable : Obligations.LuxRefIsExactWhereRepresentable := by
  intro raw i t y ht hy hexact
  have hd := lux_denominator_pos ht i
  have hfin := luxRef_finite ht raw i
  refine f32Mag_injective hfin hy (Nat.eq_of_mul_eq_mul_right hd ?_)
  have hnear := (rne32_nearest hd (luxRef_eq ht raw i ▸ hfin) y hy).1
  rw [← luxRef_eq ht] at hnear
  unfold distTo at hnear
  omega

/-- Settles O43: `RNE32` keeps the order of the quotients. -/
theorem luxRefIsMonotoneInRaw : Obligations.LuxRefIsMonotoneInRaw := by
  intro raw raw' i t ht hraw
  rw [luxRef_eq ht, luxRef_eq ht]
  exact rne32_mono_left (lux_denominator_pos ht i) (Nat.mul_le_mul_right _ (Nat.mul_le_mul_left _ hraw))

end Sys2Proof.Machine

namespace Sys2Proof.Machine

/-! ## The steps of the Measurement Protocol (R141 to R151)

One lemma a control state, for both channels. -/

/-- The readiness of a channel by arithmetic on the number of a status byte (R147, R148). -/
def Channel.StatusReady (p : Params) : Channel → Nat → Prop
  | .range, n => n % 8 = 4
  | .als, n => AlsFieldReady p.alsReadyTest n

theorem channelReady_iff (p : Params) (ch : Channel) (b : Byte) :
    channelReady p ch b = true ↔ ch.StatusReady p b.toNat := by
  cases ch with
  | range => exact rangeReady_iff b
  | als => exact alsReady_iff p.alsReadyTest b

/-- The mode a channel's single-shot read requests (R141, R142). -/
def Channel.mode : Channel → Mode
  | .range => .rangeSingleShot
  | .als => .alsSingleShot

/-- The `RES` step of a channel (R150, R151). -/
def Channel.resultStep : Channel → State → Out
  | .range => rangeResultStep
  | .als => alsResultStep

theorem exec_measurement (ch : Channel) (s : State) :
    exec ch.command s = measureStep ch.command ch.mode ch ch.resultStep s := by
  cases ch <;> rfl

/-- The state after a read of one byte, answered by the next draw. -/
def State.okReadByte (reg : RegAddr) (s : State) : State :=
  s.afterBus [.busR s.cfgDevAddr reg 1 (some [s.nextDraw.b0])]

theorem readByteStep_eq_okReadByte {s : State} {reg : RegAddr} {done : Byte → State → State}
    (ha : s.nextDraw.ack = true) : readByteStep reg done s = .next (done s.nextDraw.b0 (s.okReadByte reg)) := by
  rw [readByteStep_ok ha, memRead_one reg ha]
  rfl

section
variable {ch : Channel} {s : State}

theorem exec_measurement_idle (hq : s.seqState = .idle) : exec ch.command s =
    .next { s.latch ch.command with cfgMode := ch.command.requestedMode.getD s.cfgMode, seqState := .clr0 } := by
  rw [exec_measurement, measureStep, hq]
  cases ch <;> rfl

theorem exec_measurement_clr0 (hq : s.seqState = .clr0) (ha : s.nextDraw.ack = true) :
    exec ch.command s = .next ((s.okWrite (0x0018, 0x00)).goto .clr1) := by
  rw [exec_measurement, measureStep, hq]
  exact writeStep_eq_okWrite ha

theorem exec_measurement_clr1 (hq : s.seqState = .clr1) (ha : s.nextDraw.ack = true) :
    exec ch.command s = .next ((s.okWrite (0x0038, 0x00)).goto .clr2) := by
  rw [exec_measurement, measureStep, hq]
  exact writeStep_eq_okWrite ha

theorem exec_measurement_clr2 (hq : s.seqState = .clr2) (ha : s.nextDraw.ack = true) :
    exec ch.command s = .next ((s.okWrite (0x02A3, 0x00)).goto .trig) := by
  rw [exec_measurement, measureStep, hq]
  exact writeStep_eq_okWrite ha

theorem exec_measurement_trig (hq : s.seqState = .trig) (ha : s.nextDraw.ack = true) :
    exec ch.command s = .next (((s.okWrite (ch.startReg, 0x01)).setPollCnt 0).goto .poll) := by
  rw [exec_measurement, measureStep, hq]
  exact writeStep_eq_okWrite ha

theorem exec_measurement_poll (hq : s.seqState = .poll) (ha : s.nextDraw.ack = true) :
    exec ch.command s = .next (afterStatus ch s.nextDraw.b0 (s.okReadByte 0x004F)) := by
  rw [exec_measurement, measureStep, hq]
  exact readByteStep_eq_okReadByte ha

theorem exec_measurement_ready (hq : s.seqState = .poll) (ha : s.nextDraw.ack = true)
    (hb : ch.StatusReady s.params s.nextDraw.b0.toNat) :
    exec ch.command s = .next ((s.okReadByte 0x004F).goto .res) := by
  have hready := (channelReady_iff s.params ch s.nextDraw.b0).mpr hb
  rw [exec_measurement_poll hq ha]
  obtain ⟨-, h⟩ | ⟨hnot, -⟩ | ⟨hnot, -⟩ := afterStatus_cases ch s.nextDraw.b0 (s.okReadByte 0x004F)
  · rw [h]
  · cases hready.symm.trans hnot
  · cases hready.symm.trans hnot

/-- A status read that is not ready and does not reach the limit changes the count alone. -/
theorem exec_measurement_pollAgain (hq : s.seqState = .poll) (ha : s.nextDraw.ack = true)
    (hb : ¬ch.StatusReady s.params s.nextDraw.b0.toNat) (hl : s.params.pollLimit ≠ some (s.pollCnt + 1)) :
    exec ch.command s = .next ((s.okReadByte 0x004F).setPollCnt (s.pollCnt + 1)) := by
  rw [exec_measurement_poll hq ha]
  obtain ⟨hready, -⟩ | ⟨-, hlimit, -⟩ | ⟨-, -, h⟩ := afterStatus_cases ch s.nextDraw.b0 (s.okReadByte 0x004F)
  · exact absurd ((channelReady_iff s.params ch _).mp hready) hb
  · exact absurd hlimit hl
  · rw [h, State.goto, ← hq]
    rfl

theorem exec_measurement_respondTimeout (hq : s.seqState = .poll) (ha : s.nextDraw.ack = true)
    (hb : ¬ch.StatusReady s.params s.nextDraw.b0.toNat) (hl : s.params.pollLimit = some (s.pollCnt + 1)) :
    exec ch.command s = .next (((s.okReadByte 0x004F).setPollCnt (s.pollCnt + 1)).respond .timeout 0) := by
  rw [exec_measurement_poll hq ha]
  obtain ⟨hready, -⟩ | ⟨-, -, h⟩ | ⟨-, hlimit, -⟩ := afterStatus_cases ch s.nextDraw.b0 (s.okReadByte 0x004F)
  · exact absurd ((channelReady_iff s.params ch _).mp hready) hb
  · rw [h]
    rfl
  · exact absurd hl hlimit

/-- `exec_measurement_respondTimeout` with its next state in one record. -/
theorem exec_measurement_timeout (hq : s.seqState = .poll) (ha : s.nextDraw.ack = true)
    (hb : ¬ch.StatusReady s.params s.nextDraw.b0.toNat) (hl : s.params.pollLimit = some (s.pollCnt + 1)) :
    exec ch.command s = .next
      { s.afterBus [.busR s.cfgDevAddr 0x004F 1 (some [s.nextDraw.b0]), .resp 3 0] with
        pollCnt := s.pollCnt + 1, seqState := .idle, rspStatus := 3, rspResult := 0 } := by
  rw [exec_measurement_respondTimeout hq ha hb hl]
  have hrecord := congrArg (State.setPollCnt (s.pollCnt + 1))
    (respond_afterBus s [.busR s.cfgDevAddr 0x004F 1 (some [s.nextDraw.b0])] .timeout 0)
  exact congrArg Host.Outcome.next hrecord

theorem exec_rdrangeSs_res (hq : s.seqState = .res) (ha : s.nextDraw.ack = true) :
    exec .rdrangeSs s = .next
      { s.afterBus [.busR s.cfgDevAddr 0x0062 1 (some [s.nextDraw.b0]),
          .resp 0 (BitVec.ofNat 32 s.nextDraw.b0.toNat)] with
        seqState := .idle, rspStatus := 0, rspResult := BitVec.ofNat 32 s.nextDraw.b0.toNat } := by
  rw [exec, execRdrangeSs, measureStep, hq, BitVec.ofNat_toNat]
  exact (readByteStep_eq_okReadByte ha).trans (congrArg _ (respond_afterBus s _ .ok _))

theorem exec_rdalsSs_res (hq : s.seqState = .res) (ha : s.nextDraw.ack = true) : exec .rdalsSs s =
    .next (afterAlsResult s.nextDraw.b0 s.nextDraw.b1
      (s.afterBus [.busR s.cfgDevAddr 0x0050 2 (some [s.nextDraw.b0, s.nextDraw.b1])])) := by
  rw [exec, execRdalsSs, measureStep, hq, ← memRead_two 0x0050 ha]
  exact readPairStep_ok ha

/-- The raw value of R58 by arithmetic. -/
theorem rawOfBytes_eq (b0 b1 : Byte) : rawOfBytes b0 b1 = BitVec.ofNat 16 (b0.toNat * 256 + b1.toNat) := by
  apply BitVec.eq_of_toNat_eq
  rw [rawOfBytes, append_toNat, BitVec.toNat_ofNat]
  omega

theorem luxValue_eq (p : Params) (raw : BitVec 16) (i : TierIdx) (t : Word32) :
    luxValue p raw i t = if p.luxFn = .luxRef then luxRef raw i t else Config.otherLuxFn raw i t := by
  unfold luxValue
  cases p.luxFn <;> rfl

/-- The lux that `RDAS` answers from the result bytes `d` (R151, R160). -/
def State.lux (s : State) (d : BusDraw) : Word32 :=
  if s.params.luxFn = .luxRef then
    luxRef (BitVec.ofNat 16 (d.b0.toNat * 256 + d.b1.toNat)) s.cfgGainIdx s.cfgIPeriod
  else Config.otherLuxFn (BitVec.ofNat 16 (d.b0.toNat * 256 + d.b1.toNat)) s.cfgGainIdx s.cfgIPeriod

theorem exec_rdalsSs_res_ok (hq : s.seqState = .res) (ha : s.nextDraw.ack = true)
    (hperiod : 0 < s.cfgIPeriod.toInt) : exec .rdalsSs s = .next
      { s.afterBus [.busR s.cfgDevAddr 0x0050 2 (some [s.nextDraw.b0, s.nextDraw.b1]),
          .resp 0 (s.lux s.nextDraw)] with
        seqState := .idle, rspStatus := 0, rspResult := s.lux s.nextDraw } := by
  have hlux : luxValue s.params (rawOfBytes s.nextDraw.b0 s.nextDraw.b1) s.cfgGainIdx s.cfgIPeriod =
      s.lux s.nextDraw := by rw [luxValue_eq, rawOfBytes_eq, State.lux]
  rw [exec_rdalsSs_res hq ha]
  obtain ⟨hdomain, -⟩ | ⟨-, h⟩ := afterAlsResult_cases s.nextDraw.b0 s.nextDraw.b1
    (s.afterBus [.busR s.cfgDevAddr 0x0050 2 (some [s.nextDraw.b0, s.nextDraw.b1])])
  · exact absurd hperiod hdomain.not_gt
  · rw [h, ← hlux]
    exact congrArg _ (respond_afterBus s _ .ok _)

theorem exec_rdalsSs_res_luxDomain (hq : s.seqState = .res) (ha : s.nextDraw.ack = true)
    (hperiod : s.cfgIPeriod.toInt ≤ 0) : exec .rdalsSs s = .next
      { s.afterBus [.busR s.cfgDevAddr 0x0050 2 (some [s.nextDraw.b0, s.nextDraw.b1]), .resp 6 0] with
        seqState := .idle, rspStatus := 6, rspResult := 0 } := by
  rw [exec_rdalsSs_res hq ha]
  obtain ⟨-, h⟩ | ⟨hdomain, -⟩ := afterAlsResult_cases s.nextDraw.b0 s.nextDraw.b1
    (s.afterBus [.busR s.cfgDevAddr 0x0050 2 (some [s.nextDraw.b0, s.nextDraw.b1])])
  · rw [h]
    exact congrArg _ (respond_afterBus s _ .luxDomain 0)
  · exact absurd hperiod (not_le.mpr hdomain)

/-- Both ends of `RDAS`, by status and result. -/
theorem exec_rdalsSs_res_answers {r : BusDraw} {status : BitVec 8} {result : Word32} (hq : s.seqState = .res)
    (hr : s.nextDraw = r) (ha : r.ack = true)
    (h : (s.cfgIPeriod.toInt ≤ 0 ∧ status = 6 ∧ result = 0) ∨
      (0 < s.cfgIPeriod.toInt ∧ status = 0 ∧ result = s.lux r)) :
    exec .rdalsSs s = .next
      { s.afterBus [.busR s.cfgDevAddr 0x0050 2 (some [r.b0, r.b1]), .resp status result] with
        seqState := .idle, rspStatus := status, rspResult := result } := by
  subst hr
  obtain ⟨hperiod, rfl, rfl⟩ | ⟨hperiod, rfl, rfl⟩ := h
  · exact exec_rdalsSs_res_luxDomain hq ha hperiod
  · exact exec_rdalsSs_res_ok hq ha hperiod

end

/-- Settles O23: one lemma a control state, the range channel's readiness being that of R147. -/
theorem readRangeSteps : Obligations.ReadRangeSteps := fun _ =>
  ⟨exec_measurement_idle (ch := .range), exec_measurement_clr0 (ch := .range),
    exec_measurement_clr1 (ch := .range), exec_measurement_clr2 (ch := .range),
    exec_measurement_trig (ch := .range), exec_measurement_ready (ch := .range),
    exec_measurement_pollAgain (ch := .range), exec_measurement_timeout (ch := .range), exec_rdrangeSs_res⟩

/-- Settles O24: the same lemmas, the ALS channel's readiness being that of R148, and the two ends of `RES`. -/
theorem readAlsSteps : Obligations.ReadAlsSteps := fun _ =>
  ⟨exec_measurement_idle (ch := .als), exec_measurement_clr0 (ch := .als),
    exec_measurement_clr1 (ch := .als), exec_measurement_clr2 (ch := .als),
    exec_measurement_trig (ch := .als), exec_measurement_ready (ch := .als),
    exec_measurement_pollAgain (ch := .als), exec_measurement_timeout (ch := .als), exec_rdalsSs_res_ok,
    exec_rdalsSs_res_luxDomain⟩

theorem unimplementedStep_idle {s : State} (i : Instr) (hq : s.seqState = .idle) :
    unimplementedStep i s = .next { s with
      latOp := i.op, latMode := i.modeBits, latOpnd := i.opnd, rspStatus := 5, rspResult := 0,
      trace := s.trace ++ [.resp 5 0] } := by
  rw [unimplementedStep, hq]
  simp [State.respond, State.latch, Status.code, hq]

/-- Settles O29: the accept step of both writes the latches and responds. -/
theorem continuousReadsAnswerUnimplemented : Obligations.ContinuousReadsAnswerUnimplemented :=
  ⟨decode_encode .rdrangeCont, decode_encode .rdalsCont, fun _ hq =>
    ⟨unimplementedStep_idle .rdrangeCont hq, unimplementedStep_idle .rdalsCont hq⟩⟩

/-- Settles O30: the two readings of the ALS field differ where its bit 2 is set and another bit is. -/
theorem statusByteReadiness : Obligations.StatusByteReadiness := by
  intro b
  have hfield := alsReady_iff .fieldEq b
  have hbit := alsReady_iff .bit2 b
  simp only [AlsFieldReady, reduceCtorEq, true_and, false_and, or_false, false_or] at hfield hbit
  refine ⟨rangeReady_iff b, hfield, hbit, ?_⟩
  rw [Bool.eq_iff_iff, hfield, hbit]
  omega

/-! ## Whole runs of the single-shot reads (R140, R146, R155, R289)

A read runs to its poll, polls as long as the status is not ready, and then goes to `RES` or ends with `TIMEOUT`. -/

/-- The latches hold the read of `ch`, which stands in the control state `q`, and reset is not asserted any more. -/
structure State.Measuring (ch : Channel) (q : SeqState) (s : State) : Prop where
  latched : decode s.latchedWord = .ok ch.command
  resetIn : s.resetIn = []
  seqState : s.seqState = q

/-- The step of a read in progress is its command's. -/
theorem State.Measuring.step_eq {ch : Channel} {q : SeqState} {s : State} (h : s.Measuring ch q) (hq : q ≠ .idle) :
    step s = exec ch.command s := by
  rw [stepRunsTheLatchedCommand s ch.command (h.seqState.trans_ne hq) (by rw [h.resetIn]; rfl) h.latched]
  exact congrArg _ (resetTick_of_resetIn_nil h.resetIn)

/-! ### The poll -/

/-- The state after reads of one byte, answered by the draws `ds`. -/
def State.okReads (reg : RegAddr) (ds : List BusDraw) (s : State) : State :=
  { s with
    trace := s.trace ++ ds.map (fun d => .busR s.cfgDevAddr reg 1 (some [d.b0]))
    busAnswers := s.busAnswers.drop ds.length
    drawCount := s.drawCount + ds.length }

/-- The state after status reads answered by `ds`, none of them ready. -/
def State.polled (ds : List BusDraw) (s : State) : State :=
  (s.okReads 0x004F ds).setPollCnt (s.pollCnt + ds.length)

theorem okReads_nextDraw (s : State) (reg : RegAddr) : s.okReads reg [s.nextDraw] = s.okReadByte reg := by
  simp [State.okReads, State.okReadByte, State.afterBus]

theorem polled_nil (s : State) : s.polled [] = s := by
  simp [State.polled, State.okReads, State.setPollCnt]

theorem polled_cons (d : BusDraw) (ds : List BusDraw) (s : State) :
    (s.polled [d]).polled ds = s.polled (d :: ds) := by
  simp [State.polled, State.okReads, State.setPollCnt, Nat.add_assoc, Nat.add_comm 1]

/-- The next answers are `ds` and then `more`, each of `ds` a status that is not ready. -/
def State.NotReady (ch : Channel) (ds more : List BusDraw) (s : State) : Prop :=
  s.busAnswers = ds ++ more ∧ ∀ d ∈ ds, d.ack = true ∧ ¬ch.StatusReady s.params d.b0.toNat

section
variable {ch : Channel} {s : State} {d : BusDraw} {ds more : List BusDraw}

theorem State.Measuring.polled (h : s.Measuring ch .poll) (ds : List BusDraw) : (s.polled ds).Measuring ch .poll :=
  ⟨h.latched, h.resetIn, h.seqState⟩

theorem State.Measuring.okWrite_goto {q : SeqState} (h : s.Measuring ch q) (w : RegAddr × Byte) (q' : SeqState) :
    ((s.okWrite w).goto q').Measuring ch q' := ⟨h.latched, h.resetIn, rfl⟩

theorem State.Measuring.okReads_goto {q : SeqState} (h : s.Measuring ch q) (reg : RegAddr) (ds : List BusDraw)
    (q' : SeqState) : ((s.okReads reg ds).goto q').Measuring ch q' := ⟨h.latched, h.resetIn, rfl⟩

theorem State.NotReady.head (h : s.NotReady ch (d :: ds) more) :
    s.nextDraw = d ∧ s.nextDraw.ack = true ∧ ¬ch.StatusReady s.params s.nextDraw.b0.toNat := by
  obtain ⟨hb, hds⟩ := h
  have hd : s.nextDraw = d := nextDraw_cons hb
  exact ⟨hd, hd ▸ hds d List.mem_cons_self⟩

theorem State.NotReady.tail (h : s.NotReady ch (d :: ds) more) : (s.polled [d]).NotReady ch ds more := by
  obtain ⟨hb, hds⟩ := h
  exact ⟨congrArg (List.drop 1) hb, fun x hx => hds x (List.mem_cons_of_mem d hx)⟩

theorem State.Measuring.step_pollAgain (h : s.Measuring ch .poll) (hds : s.NotReady ch (d :: ds) more)
    (hl : s.params.pollLimit ≠ some (s.pollCnt + 1)) : step s = .next (s.polled [d]) := by
  obtain ⟨rfl, ha, hb⟩ := hds.head
  rw [h.step_eq nofun, exec_measurement_pollAgain h.seqState ha hb hl, State.polled, okReads_nextDraw]
  rfl

/-- Below the limit, where there is one, the poll goes on as long as the status is not ready (R146). -/
theorem State.Measuring.run_polled (h : s.Measuring ch .poll) (hds : s.NotReady ch ds more)
    (hl : ∀ n, s.params.pollLimit = some n → s.pollCnt + ds.length < n) :
    Host.Core.run core ds.length s = .next (s.polled ds) := by
  induction ds generalizing s with
  | nil => rw [polled_nil]; rfl
  | cons d ds ih =>
    have hlimit : s.params.pollLimit ≠ some (s.pollCnt + 1) := fun hn => by
      have := hl _ hn
      rw [List.length_cons] at this
      omega
    have hl' : ∀ n, s.params.pollLimit = some n → s.pollCnt + 1 + ds.length < n := fun n hn => by
      have := hl n hn
      rw [List.length_cons] at this
      omega
    rw [List.length_cons, run_step (h.step_pollAgain hds hlimit), ih (h.polled [d]) hds.tail hl', polled_cons]

/-- As many reads that are not ready as the limit still allows end the command (R146). -/
theorem State.Measuring.run_timeout (h : s.Measuring ch .poll) (hds : s.NotReady ch (d :: ds) more)
    (hl : s.params.pollLimit = some (s.pollCnt + (d :: ds).length)) :
    Host.Core.run core (d :: ds).length s = .next ((s.polled (d :: ds)).respond .timeout 0) := by
  induction ds generalizing s d with
  | nil =>
    obtain ⟨rfl, ha, hb⟩ := hds.head
    have hstep := (h.step_eq nofun).trans (exec_measurement_respondTimeout h.seqState ha hb hl)
    rw [List.length_singleton, run_step hstep, State.polled, okReads_nextDraw]
    rfl
  | cons d' ds ih =>
    have hlimit : s.params.pollLimit ≠ some (s.pollCnt + 1) := by simp [hl]
    have hl' : s.params.pollLimit = some (s.pollCnt + 1 + (d' :: ds).length) :=
      hl.trans (congrArg some (by rw [List.length_cons]; omega))
    rw [List.length_cons, run_step (h.step_pollAgain hds hlimit), ih (h.polled [d]) hds.tail hl', polled_cons]

end

/-! ### From the submission to the poll -/

/-- The next step accepts the read of `ch`, its four writes are answered `ok`, and `answers` are the answers after
them. -/
structure State.ReadSubmitted (ch : Channel) (rest : List CmdWord) (answers : List BusDraw) (s : State) : Prop where
  seqState : s.seqState = .idle
  resetIn : s.resetIn = []
  hostCmds : s.hostCmds = encode ch.command :: rest
  acks : ∀ k < 4, (s.drawAt k).ack = true
  busAnswers : s.busAnswers.drop 4 = answers

/-- The clear sequence (R101) and the trigger (R143). -/
def measurementWrites (ch : Channel) : List (RegAddr × Byte) :=
  [(0x0018, 0x00), (0x0038, 0x00), (0x02A3, 0x00), (ch.startReg, 0x01)]

/-- The state in which the read of `ch` starts to poll. -/
def State.atPoll (ch : Channel) (rest : List CmdWord) (s : State) : State :=
  (((s.started ch.command rest).okWrites (measurementWrites ch)).setPollCnt 0).goto .poll

section
variable {ch : Channel} {s : State} {rest : List CmdWord} {answers : List BusDraw}

theorem started_measuring (ch : Channel) (hr : s.resetIn = []) (rest : List CmdWord) :
    (s.started ch.command rest).Measuring ch .clr0 := ⟨decode_encode ch.command, hr, rfl⟩

theorem step_measurement_idle (h : s.ReadSubmitted ch rest answers) :
    step s = .next (s.started ch.command rest) := by
  rw [step_accept h.seqState (by rw [h.resetIn]; rfl) h.hostCmds, resetTick_of_resetIn_nil h.resetIn,
    acceptStep_ok (decode_encode ch.command)]
  exact exec_measurement_idle (s := s.takeCommand (encode ch.command) rest) h.seqState

theorem drawAt_started (s : State) (i : Instr) (rest : List CmdWord) (k : Nat) :
    (s.started i rest).drawAt k = s.drawAt k := rfl

/-- The accept step, the clear sequence and the trigger: five steps to the poll. -/
theorem State.ReadSubmitted.run_atPoll (h : s.ReadSubmitted ch rest answers) :
    Host.Core.run core 5 s = .next (s.atPoll ch rest) := by
  have m0 := started_measuring ch h.resetIn rest
  have m1 := m0.okWrite_goto (0x0018, 0x00) .clr1
  have m2 := m1.okWrite_goto (0x0038, 0x00) .clr2
  have m3 := m2.okWrite_goto (0x02A3, 0x00) .trig
  have clr0 := exec_measurement_clr0 (ch := ch) m0.seqState
    (by simp only [← drawAt_zero, drawAt_started]; exact h.acks 0 (by decide))
  have clr1 := exec_measurement_clr1 (ch := ch) m1.seqState
    (by simp only [← drawAt_zero, drawAt_okWrite_goto, drawAt_started]; exact h.acks 1 (by decide))
  have clr2 := exec_measurement_clr2 (ch := ch) m2.seqState
    (by simp only [← drawAt_zero, drawAt_okWrite_goto, drawAt_started]; exact h.acks 2 (by decide))
  have trig := exec_measurement_trig (ch := ch) m3.seqState
    (by simp only [← drawAt_zero, drawAt_okWrite_goto, drawAt_started]; exact h.acks 3 (by decide))
  rw [run_step (step_measurement_idle h), run_step ((m0.step_eq nofun).trans clr0),
    run_step ((m1.step_eq nofun).trans clr1), run_step ((m2.step_eq nofun).trans clr2),
    run_step ((m3.step_eq nofun).trans trig), ← okWrites_singleton _ (ch.startReg, 0x01), okWrites_cons_goto,
    okWrites_cons_goto, okWrites_cons_goto]
  rfl

theorem State.ReadSubmitted.atPoll_measuring (h : s.ReadSubmitted ch rest answers) :
    (s.atPoll ch rest).Measuring ch .poll := ⟨decode_encode ch.command, h.resetIn, rfl⟩

theorem State.ReadSubmitted.atPoll_busAnswers (h : s.ReadSubmitted ch rest answers) :
    (s.atPoll ch rest).busAnswers = answers := h.busAnswers

end

/-! ### The ends of a read -/

/-- The events of the read of `ch` before its poll (R140, R155). -/
def startEvents (ch : Channel) (dev : DevAddr) : List Event :=
  .accept (encode ch.command) :: (measurementWrites ch).map (fun w => .busW dev w.1 w.2 true)

/-- The state in which the read of `ch` stands in `RES`, after status reads answered by `ds` and `st`, of which `st`
alone is ready. -/
def State.atRes (ch : Channel) (rest : List CmdWord) (ds : List BusDraw) (st : BusDraw) (s : State) : State :=
  (((s.atPoll ch rest).polled ds).okReads 0x004F [st]).goto .res

/-- A submitted read whose status reads answered by `ds` are not ready and stay below the limit, where there is one,
and whose next status read, answered by `st`, is ready. -/
structure State.ReadyAfter (ch : Channel) (rest : List CmdWord) (ds : List BusDraw) (st : BusDraw)
    (more : List BusDraw) (s : State) : Prop where
  submitted : s.ReadSubmitted ch rest (ds ++ st :: more)
  waits : ∀ x ∈ ds, x.ack = true ∧ ¬ch.StatusReady s.params x.b0.toNat
  ack : st.ack = true
  ready : ch.StatusReady s.params st.b0.toNat
  below : ∀ n, s.params.pollLimit = some n → ds.length < n

/-- The way to `RES` changes none of the fields that `lux` reads. -/
theorem atRes_lux_fields (s : State) (ch : Channel) (rest : List CmdWord) (ds : List BusDraw) (st : BusDraw) :
    (s.atRes ch rest ds st).cfgIPeriod = s.cfgIPeriod ∧ (s.atRes ch rest ds st).cfgGainIdx = s.cfgGainIdx ∧
      (s.atRes ch rest ds st).params = s.params := by
  simp [State.atRes, State.polled, State.okReads, State.atPoll, State.okWrites, State.started, State.takeCommand]

section
variable {ch : Channel} {s t : State} {rest : List CmdWord} {a b c d st r : BusDraw} {ds more answers : List BusDraw}

theorem readSubmitted_of_idle (hq : s.seqState = .idle) (hr : s.resetIn = [])
    (hc : s.hostCmds = encode ch.command :: rest) (hbus : s.busAnswers = a :: b :: c :: d :: answers)
    (ha : a.ack = true) (hb : b.ack = true) (hc' : c.ack = true) (hd : d.ack = true) :
    s.ReadSubmitted ch rest answers :=
  ⟨hq, hr, hc, drawAt_ack_of_oks (oks := [a, b, c, d]) hbus (by simp [ha, hb, hc', hd]),
    congrArg (List.drop 4) hbus⟩

theorem polled_busAnswers (hds : s.NotReady ch ds more) : (s.polled ds).busAnswers = more :=
  (congrArg (List.drop ds.length) hds.1).trans List.drop_left

theorem State.ReadSubmitted.atPoll_notReady (h : s.ReadSubmitted ch rest (ds ++ more))
    (hds : ∀ x ∈ ds, x.ack = true ∧ ¬ch.StatusReady s.params x.b0.toNat) :
    (s.atPoll ch rest).NotReady ch ds more := ⟨h.atPoll_busAnswers, hds⟩

theorem State.ReadyAfter.notReady (h : s.ReadyAfter ch rest ds st more) :
    (s.atPoll ch rest).NotReady ch ds (st :: more) := h.submitted.atPoll_notReady h.waits

theorem State.ReadyAfter.nextDraw (h : s.ReadyAfter ch rest ds st more) :
    ((s.atPoll ch rest).polled ds).nextDraw = st := nextDraw_cons (polled_busAnswers h.notReady)

theorem State.ReadyAfter.atRes_busAnswers (h : s.ReadyAfter ch rest ds st more) :
    (s.atRes ch rest ds st).busAnswers = more := by
  have hdrop : (s.atRes ch rest ds st).busAnswers = ((s.atPoll ch rest).polled ds).busAnswers.drop 1 := rfl
  rw [hdrop, polled_busAnswers h.notReady]
  rfl

theorem State.ReadyAfter.atRes_measuring (h : s.ReadyAfter ch rest ds st more) :
    (s.atRes ch rest ds st).Measuring ch .res :=
  (h.submitted.atPoll_measuring.polled ds).okReads_goto 0x004F [st] .res

/-- A read whose status is ready after `ds` goes to `RES`. -/
theorem State.ReadyAfter.run_atRes (h : s.ReadyAfter ch rest ds st more) :
    Host.Core.run core (5 + (ds.length + 1)) s = .next (s.atRes ch rest ds st) := by
  have hpoll := h.submitted.atPoll_measuring
  have hbelow : ∀ n, s.params.pollLimit = some n → 0 + ds.length < n := by simpa using h.below
  have hready := exec_measurement_ready (ch := ch) (hpoll.polled ds).seqState
    (by rw [h.nextDraw]; exact h.ack) (by rw [h.nextDraw]; exact h.ready)
  rw [run_add h.submitted.run_atPoll, run_add (hpoll.run_polled h.notReady hbelow),
    run_step (((hpoll.polled ds).step_eq nofun).trans hready), ← okReads_nextDraw, h.nextDraw]
  rfl

/-- The whole run of a read, by what its `RES` step makes of the state `atRes`. -/
theorem State.ReadyAfter.run_result (h : s.ReadyAfter ch rest ds st more)
    (hres : exec ch.command (s.atRes ch rest ds st) = .next t) :
    Host.Core.run core (7 + ds.length) s = .next t := by
  rw [show 7 + ds.length = 5 + (ds.length + 1) + 1 by omega, run_add h.run_atRes,
    run_step ((h.atRes_measuring.step_eq nofun).trans hres)]
  rfl

/-- The end of a read in `RES`, in one record. -/
theorem State.ReadyAfter.ended_atRes (h : s.ReadyAfter ch rest ds st (r :: more)) (evs : List Event)
    (status : BitVec 8) (result : Word32) :
    { (s.atRes ch rest ds st).afterBus evs with
      seqState := .idle, rspStatus := status, rspResult := result } = ({ s with
        hostCmds := rest, latOp := ch.command.op, latMode := ch.command.modeBits, latOpnd := ch.command.opnd,
        cfgMode := ch.command.requestedMode.getD s.cfgMode, pollCnt := ds.length,
        rspStatus := status, rspResult := result,
        busAnswers := more, drawCount := s.drawCount + (6 + ds.length),
        trace := s.trace ++ (startEvents ch s.cfgDevAddr ++
          ds.map (fun d => .busR s.cfgDevAddr 0x004F 1 (some [d.b0])) ++
          .busR s.cfgDevAddr 0x004F 1 (some [st.b0]) :: evs) } : State) := by
  have hmore : s.busAnswers.drop (6 + ds.length) = more := by
    rw [show 6 + ds.length = 4 + (ds.length + 2) by omega, ← List.drop_drop, h.submitted.busAnswers,
      List.drop_length_add_append]
    rfl
  simp [State.atRes, State.polled, State.atPoll, State.okReads, State.okWrites, State.started, State.takeCommand,
    State.emit, State.latch, State.setPollCnt, State.goto, State.afterBus, startEvents, measurementWrites,
    h.submitted.seqState, ← hmore]
  omega

/-- The end of a read with `TIMEOUT`, in one record. -/
theorem State.ReadSubmitted.timeout_atPoll (h : s.ReadSubmitted ch rest (ds ++ more)) :
    ((s.atPoll ch rest).polled ds).respond .timeout 0 = { s with
      hostCmds := rest, latOp := ch.command.op, latMode := ch.command.modeBits, latOpnd := ch.command.opnd,
      cfgMode := ch.command.requestedMode.getD s.cfgMode, pollCnt := ds.length, rspStatus := 3, rspResult := 0,
      busAnswers := more, drawCount := s.drawCount + (4 + ds.length),
      trace := s.trace ++ (startEvents ch s.cfgDevAddr ++
        ds.map (fun d => .busR s.cfgDevAddr 0x004F 1 (some [d.b0])) ++ [.resp 3 0]) } := by
  have hmore : s.busAnswers.drop (4 + ds.length) = more := by
    rw [← List.drop_drop, h.busAnswers, List.drop_left]
  simp [State.respond, State.polled, State.atPoll, State.okReads, State.okWrites, State.started, State.takeCommand,
    State.emit, State.latch, State.setPollCnt, State.goto, startEvents, measurementWrites, Status.code,
    h.seqState, ← hmore, Nat.add_assoc]

end

/-- Settles O25: the run to `RES`, and the result byte read there. -/
theorem readRangeRunsToItsResponse : Obligations.ReadRangeRunsToItsResponse := by
  intro s rest a b c d ds st r more hq hr hcmds hbus ha hb hc hd hst hrack hds hready hl
  have h : s.ReadyAfter .range rest ds st (r :: more) :=
    ⟨readSubmitted_of_idle hq hr hcmds hbus ha hb hc hd, hds, hst, hready, hl⟩
  have hnext : (s.atRes .range rest ds st).nextDraw = r := nextDraw_cons h.atRes_busAnswers
  have hres := exec_rdrangeSs_res h.atRes_measuring.seqState (by rwa [hnext])
  rw [h.run_result hres, hnext, h.ended_atRes]
  rfl

/-- Settles O26: the run to `RES`, and what the period makes of the result bytes read there. -/
theorem readAlsRunsToItsResponse : Obligations.ReadAlsRunsToItsResponse := by
  intro s rest a b c d ds st r more status result hq hr hcmds hbus ha hb hc hd hst hrack hds hready hl hend
  have h : s.ReadyAfter .als rest ds st (r :: more) :=
    ⟨readSubmitted_of_idle hq hr hcmds hbus ha hb hc hd, hds, hst, hready, hl⟩
  have hnext : (s.atRes .als rest ds st).nextDraw = r := nextDraw_cons h.atRes_busAnswers
  obtain ⟨hperiod, hgain, hparams⟩ := atRes_lux_fields s .als rest ds st
  have hres := exec_rdalsSs_res_answers h.atRes_measuring.seqState hnext hrack
    (by rw [State.lux, hperiod, hgain, hparams]; exact hend)
  rw [h.run_result hres, h.ended_atRes]
  rfl

/-- Settles O27: the run to the poll, and the poll to its limit. -/
theorem pollLimitEndsAReadRangeWithTimeout : Obligations.PollLimitEndsAReadRangeWithTimeout := by
  intro s rest a b c d ds more hq hr hcmds hbus ha hb hc hd hds hl hpos
  have h := readSubmitted_of_idle (ch := .range) hq hr hcmds hbus ha hb hc hd
  obtain ⟨x, ds, rfl⟩ := List.exists_cons_of_length_pos hpos
  have htimeout := h.atPoll_measuring.run_timeout (h.atPoll_notReady hds) (hl.trans (by simp [State.atPoll]))
  rw [run_add h.run_atPoll, htimeout, h.timeout_atPoll]
  rfl

/-- Settles O28: without a limit the poll goes on over any number of reads. -/
theorem unboundedPollNeverAnswers : Obligations.UnboundedPollNeverAnswers := by
  intro s i ds more hq hr hnone hdec hbus hi
  have hrun (ch : Channel) (hch : i = ch.command)
      (hds : ∀ x ∈ ds, x.ack = true ∧ ¬ch.StatusReady s.params x.b0.toNat) :
      Host.Core.run core ds.length s = .next (s.polled ds) :=
    State.Measuring.run_polled ⟨hch ▸ hdec, hr, hq⟩ (more := more) ⟨hbus, hds⟩ (by simp [hnone])
  have hend : s.busAnswers.drop ds.length = more := by rw [hbus, List.drop_left]
  rw [← hend]
  obtain ⟨hi, hds⟩ | ⟨hi, hds⟩ := hi
  · exact hrun .range hi hds
  · exact hrun .als hi hds

end Sys2Proof.Machine

namespace Sys2Proof.Machine

/-! ## The gain selector (R190 to R195)

A breakpoint is compared by its exact value in units of `2^-149`. -/

/-- The breakpoints of R190 by value. -/
theorem tierBreakpoints_units : tierBreakpoints.map f32Units =
    [2 ^ 149, 5 * 2 ^ 147, 0xD5C28F * 2 ^ 126, 5 * 2 ^ 148, 5 * 2 ^ 149, 10 * 2 ^ 149, 20 * 2 ^ 149,
      40 * 2 ^ 149] := rfl

theorem tierBreakpoints_notNaN : ∀ y ∈ tierBreakpoints, f32IsNaN y = false := by
  simp [tierBreakpoints, f32IsNaN, f32Exp, f32Frac]

section
variable {x y : Word32}

/-- On numbers `<=` is the order of the exact values (R15). -/
theorem f32Le_eq_decide (hx : f32IsNaN x = false) (hy : f32IsNaN y = false) :
    f32Le x y = decide (f32Units x ≤ f32Units y) := by simp [f32Le, hx, hy]

theorem findIdx?_f32Le (hx : f32IsNaN x = false) {ys : List Word32} (hys : ∀ y ∈ ys, f32IsNaN y = false) :
    ys.findIdx? (f32Le x) = (ys.map f32Units).findIdx? (fun u => decide (f32Units x ≤ u)) := by
  induction ys with
  | nil => rfl
  | cons y ys ih =>
    obtain ⟨hy, hys⟩ := List.forall_mem_cons.mp hys
    rw [List.map_cons, List.findIdx?_cons, List.findIdx?_cons, f32Le_eq_decide hx hy, ih hys]

/-- A number selects the first breakpoint whose value is at or above its own (R192). -/
theorem gainSelect_of_notNaN (hx : f32IsNaN x = false) : gainSelect x =
    BitVec.ofNat 3 (((tierBreakpoints.map f32Units).findIdx? (fun u => decide (f32Units x ≤ u))).getD 0) := by
  rw [gainSelect, findIdx?_f32Le hx tierBreakpoints_notNaN]

/-- A NaN is at or below no breakpoint (R194). -/
theorem gainSelect_of_isNaN (hx : f32IsNaN x = true) : gainSelect x = 0 := by
  have hnone : tierBreakpoints.findIdx? (f32Le x) = none :=
    List.findIdx?_eq_none_iff.mpr fun y _ => by simp [f32Le, hx]
  rw [gainSelect, hnone]
  rfl

/-- No binary32 value lies between the breakpoint of tier 2 and the exact 1.67 (R195): from its binade on, the values
are multiples of `2^126`. -/
theorem f32Units_le_breakpoint_iff (x : Word32) :
    f32Units x ≤ 0xD5C28F * 2 ^ 126 ↔ f32Units x * 100 ≤ 167 * 2 ^ 149 := by
  have hunits := f32Units_eq x
  obtain ⟨m, hm⟩ | ⟨-, hlt⟩ := f32Mag_multiple_or_lt x 126 <;> split at hunits <;> omega

end

/-- Settles O35: the branches of the table are the positions in the list of the breakpoints' values. -/
theorem gainSelectionIntervals : Obligations.GainSelectionIntervals := by
  intro x hx
  rw [gainSelect_of_notNaN hx, tierBreakpoints_units]
  simp only [List.findIdx?_cons, List.findIdx?_nil, decide_eq_true_eq]
  split_ifs <;> rfl

/-- Settles O36: the pattern is a NaN, and a NaN selects the index 0. -/
theorem naNSelectsTheFallbackTier : Obligations.NaNSelectsTheFallbackTier := by
  intro x hexp hfrac
  have hx : f32IsNaN x = true := (f32IsNaN_iff x).mpr ⟨(f32Exp_eq x).trans hexp, (f32Frac_eq x).trans_ne hfrac⟩
  rw [gainSelect_of_isNaN hx]
  exact ⟨rfl, rfl, rfl⟩

/-- Settles O37: every breakpoint but that of tier 2 is its literal exactly. -/
theorem breakpointsAgreeWithDecimalLiterals : Obligations.BreakpointsAgreeWithDecimalLiterals := by
  intro x hx row hrow
  have hy : f32IsNaN row.1 = false := by revert row; decide
  have hrows : row = (0x3FD5C28F, 167, 100) ∨ (f32Units row.1 * row.2.2 = row.2.1 * 2 ^ 149 ∧ 0 < row.2.2) := by
    revert row; decide
  rw [f32Le_eq_decide hx hy, decide_eq_true_eq]
  obtain rfl | ⟨hexact, hpos⟩ := hrows
  · exact f32Units_le_breakpoint_iff x
  · rw [← hexact, mul_le_mul_iff_left₀ hpos]

/-! ## The period byte (R210) -/

theorem periodByte_toNat (ms : Word32) : ((periodByte ms).toNat : Int) = (ms.toInt - 1) % 256 := by
  rw [periodByte, BitVec.toNat_ofInt]
  omega

/-- Settles O38: the definition by its number, and `2^32` is a multiple of 256. -/
theorem periodByteWraps : Obligations.PeriodByteWraps := by
  intro ms
  have hbyte := periodByte_toNat ms
  refine ⟨hbyte, BitVec.eq_of_toNat_eq ?_, fun hlo hhi => by omega⟩
  rw [BitVec.toNat_setWidth, BitVec.toNat_sub, show (1 : Word32).toNat = 1 from rfl]
  rw [BitVec.toInt_eq_toNat_cond] at hbyte
  split at hbyte <;> omega

end Sys2Proof.Machine

namespace Sys2Proof.Machine

/-! ## The steps of the quantizer commands (R200, R201, R210 to R212) -/

/-- The strict gain check by the operand's value (R201). -/
theorem gainRejected_iff (x : Word32) :
    gainRejected x = true ↔ f32IsNaN x = true ∨ 40 * 2 ^ 149 < f32Units x := by
  have hlimit : f32Units 0x42200000 = 40 * 2 ^ 149 := rfl
  have hlimitNumber : f32IsNaN 0x42200000 = false := by decide
  rw [gainRejected, f32Gt, hlimit, hlimitNumber]
  cases f32IsNaN x <;> simp

theorem gainRejected_eq_false_iff (x : Word32) :
    gainRejected x = false ↔ f32IsNaN x = false ∧ f32Units x ≤ 40 * 2 ^ 149 := by
  rw [← Bool.not_eq_true, gainRejected_iff, not_or, Bool.not_eq_true, not_lt]

theorem periodRejected_iff (ms : Word32) : periodRejected ms = true ↔ ¬(1 ≤ ms.toInt ∧ ms.toInt ≤ 256) := by
  rw [← periodRejected_eq_false_iff, Bool.not_eq_false]

/-- `TIER_CODE` as a list of numbers (R191). -/
theorem tierByte_eq (i : TierIdx) : tierByte i = BitVec.ofNat 8 ([6, 5, 4, 3, 2, 1, 0, 7].getD i.toNat 0) := by
  revert i; decide

/-- The result word of `SETG` by arithmetic (R82). -/
theorem gainResult_eq (i : TierIdx) :
    gainResult i = BitVec.ofNat 32 ([6, 5, 4, 3, 2, 1, 0, 7].getD i.toNat 0 * 8 + i.toNat) := by
  revert i; decide

theorem periodByte_eq (ms : Word32) : periodByte ms = BitVec.ofInt 8 ((ms.toInt - 1) % 256) := by
  apply BitVec.eq_of_toNat_eq
  have hbyte := periodByte_toNat ms
  rw [BitVec.toNat_ofInt]
  omega

section
variable {s : State} {x ms : Word32}

/-- The end of a command at its accept step by the strict check, in one record. -/
theorem respond_invalidParameter_latch (hq : s.seqState = .idle) (i : Instr) :
    (s.latch i).respond .invalidParameter 0 = { s with
      latOp := i.op, latMode := i.modeBits, latOpnd := i.opnd, rspStatus := 2, rspResult := 0,
      trace := s.trace ++ [.resp 2 0] } := by
  simp [State.respond, State.latch, Status.code, hq]

theorem exec_setgain_idle (hq : s.seqState = .idle) :
    exec (.setgain x) s = .next (acceptGain (s.latch (.setgain x))) := by rw [exec, execSetgain, hq]

theorem exec_setgain_start (hq : s.seqState = .idle) (hok : s.params.strictParams = true → gainRejected x = false) :
    exec (.setgain x) s = .next { s with
      latOp := 5, latMode := 0, latOpnd := x, latTier := gainSelect x, seqState := .gwr } := by
  rw [exec_setgain_idle hq]
  obtain ⟨hstrict, hrej, -⟩ | ⟨-, h⟩ := acceptGain_cases (s.latch (.setgain x))
  · cases hrej.symm.trans (hok hstrict)
  · exact congrArg _ h

theorem exec_setgain_refused (hq : s.seqState = .idle) (hstrict : s.params.strictParams = true)
    (hrej : gainRejected x = true) :
    exec (.setgain x) s = .next { s with
      latOp := 5, latMode := 0, latOpnd := x, rspStatus := 2, rspResult := 0, trace := s.trace ++ [.resp 2 0] } := by
  rw [exec_setgain_idle hq]
  obtain ⟨-, -, h⟩ | ⟨hok, -⟩ := acceptGain_cases (s.latch (.setgain x))
  · exact congrArg _ (h.trans (respond_invalidParameter_latch hq (.setgain x)))
  · cases hrej.symm.trans (hok hstrict)

theorem exec_setgain_gwr (hq : s.seqState = .gwr) (ha : s.nextDraw.ack = true) :
    exec (.setgain x) s = .next
      { s.afterBus [.busW s.cfgDevAddr s.params.addrAlsGain (tierByte s.latTier) true,
          .resp 0 (gainResult s.latTier)] with
        cfgGainIdx := s.latTier, seqState := .idle, rspStatus := 0, rspResult := gainResult s.latTier } := by
  rw [exec, execSetgain, hq]
  have hrecord := respond_afterBus (s.setCfgGainIdx s.latTier)
    [.busW s.cfgDevAddr s.params.addrAlsGain (tierByte s.latTier) true] .ok (gainResult s.latTier)
  exact (writeStep_eq_okWrite ha).trans (congrArg _ hrecord)

theorem exec_setperiod_idle (hq : s.seqState = .idle) :
    exec (.setperiod ms) s = .next (acceptPeriod (s.latch (.setperiod ms))) := by rw [exec, execSetperiod, hq]

theorem exec_setperiod_start (hq : s.seqState = .idle)
    (hok : s.params.strictParams = true → periodRejected ms = false) :
    exec (.setperiod ms) s = .next { s with latOp := 6, latMode := 0, latOpnd := ms, seqState := .pwr } := by
  rw [exec_setperiod_idle hq]
  obtain ⟨hstrict, hrej, -⟩ | ⟨-, h⟩ := acceptPeriod_cases (s.latch (.setperiod ms))
  · cases hrej.symm.trans (hok hstrict)
  · exact congrArg _ h

theorem exec_setperiod_refused (hq : s.seqState = .idle) (hstrict : s.params.strictParams = true)
    (hrej : periodRejected ms = true) :
    exec (.setperiod ms) s = .next { s with
      latOp := 6, latMode := 0, latOpnd := ms, rspStatus := 2, rspResult := 0, trace := s.trace ++ [.resp 2 0] } := by
  rw [exec_setperiod_idle hq]
  obtain ⟨-, -, h⟩ | ⟨hok, -⟩ := acceptPeriod_cases (s.latch (.setperiod ms))
  · exact congrArg _ (h.trans (respond_invalidParameter_latch hq (.setperiod ms)))
  · cases hrej.symm.trans (hok hstrict)

theorem exec_setperiod_pwr (hq : s.seqState = .pwr) (ha : s.nextDraw.ack = true) :
    exec (.setperiod ms) s = .next
      { s.afterBus [.busW s.cfgDevAddr s.params.addrAlsIPeriod (periodByte s.latOpnd) true, .resp 0 0] with
        cfgIPeriod := s.latOpnd, seqState := .idle, rspStatus := 0, rspResult := 0 } := by
  rw [exec, execSetperiod, hq]
  have hrecord := respond_afterBus (s.setCfgIPeriod s.latOpnd)
    [.busW s.cfgDevAddr s.params.addrAlsIPeriod (periodByte s.latOpnd) true] .ok 0
  exact (writeStep_eq_okWrite ha).trans (congrArg _ hrecord)

end

/-- Settles O31: the strict check is its comparison with 40.0, and the tier's code and result word are the table's
numbers. -/
theorem setGainSteps : Obligations.SetGainSteps := by
  intro s x
  refine ⟨fun hq hok => ?_, fun hq hstrict hrej => ?_, fun hq ha => ?_⟩
  · exact exec_setgain_start hq fun hstrict => (gainRejected_eq_false_iff x).mpr (hok hstrict)
  · exact exec_setgain_refused hq hstrict ((gainRejected_iff x).mpr hrej)
  · rw [exec_setgain_gwr hq ha, tierByte_eq, gainResult_eq]

/-- Settles O32: the strict check is its two bounds, and the byte is the encoded operand. -/
theorem setPeriodSteps : Obligations.SetPeriodSteps := by
  intro s ms
  refine ⟨fun hq hok => ?_, fun hq hstrict hrej => ?_, fun hq ha => ?_⟩
  · exact exec_setperiod_start hq fun hstrict => (periodRejected_eq_false_iff ms).mpr (hok hstrict)
  · exact exec_setperiod_refused hq hstrict ((periodRejected_iff ms).mpr hrej)
  · rw [exec_setperiod_pwr hq ha, periodByte_eq]

/-! ## Whole runs of the quantizer commands (R289) -/

/-- A command that starts at its accept step and completes its next step runs over both. -/
theorem run_accept_step {i : Instr} {s t u : State} {rest : List CmdWord} (hq : s.seqState = .idle)
    (hr : s.resetIn = []) (hc : s.hostCmds = encode i :: rest)
    (hacc : exec i (s.takeCommand (encode i) rest) = .next t) (hbusy : t.seqState ≠ .idle)
    (hlast : exec i t = .next u) : Host.Core.run core 2 s = .next u := by
  have hstep : step s = .next t := by
    rw [step_accept hq (by rw [hr]; rfl) hc, resetTick_of_resetIn_nil hr, acceptStep_ok (decode_encode i), hacc]
  have hnext : step t = .next u := by
    cases exec_idle (s := s.takeCommand (encode i) rest) hq hacc with
    | refuse => exact absurd rfl hbusy
    | start q tier =>
      rw [stepRunsTheLatchedCommand _ i hbusy (congrArg (List.headD · false) hr) (decode_encode i), ← hlast]
      exact congrArg _ (resetTick_of_resetIn_nil hr)
  rw [run_step hstep, run_step hnext]
  rfl

/-- Settles O33: `SETG` runs over its accept step and `GWR`. -/
theorem setGainRunsToItsResponse : Obligations.SetGainRunsToItsResponse := by
  intro s x rest a more hq hr hcmds hbus ha hok
  have hacc := exec_setgain_start (s := s.takeCommand (encode (.setgain x)) rest) hq
    fun hstrict => (gainRejected_eq_false_iff x).mpr (hok hstrict)
  have hack : s.nextDraw.ack = true := by rwa [nextDraw_cons hbus]
  rw [run_accept_step hq hr hcmds hacc nofun (exec_setgain_gwr rfl hack), tierByte_eq, gainResult_eq]
  simp [State.afterBus, State.takeCommand, State.emit, hbus, hq]

/-- Settles O34: `SETP` runs over its accept step and `PWR`. -/
theorem setPeriodRunsToItsResponse : Obligations.SetPeriodRunsToItsResponse := by
  intro s ms rest a more hq hr hcmds hbus ha hok
  have hacc := exec_setperiod_start (s := s.takeCommand (encode (.setperiod ms)) rest) hq
    fun hstrict => (periodRejected_eq_false_iff ms).mpr (hok hstrict)
  have hack : s.nextDraw.ack = true := by rwa [nextDraw_cons hbus]
  rw [run_accept_step hq hr hcmds hacc nofun (exec_setperiod_pwr rfl hack), periodByte_eq]
  simp [State.afterBus, State.takeCommand, State.emit, hbus, hq]

/-! ## The steps that can answer `LUX_DOMAIN` (R161, R213) -/

/-- If the outcome `o` of a step from `s` is a next state, then its status is not a new `LUX_DOMAIN`. -/
def NoNewLuxDomain (s : State) (o : Out) : Prop := ∀ t, o = .next t → s.rspStatus ≠ 6 → t.rspStatus ≠ 6

section
variable {i : Instr} {s : State} {reg : RegAddr} {b : Byte}

theorem NoNewLuxDomain.write {done : State → State}
    (hdone : ∀ u : State, u.rspStatus ≠ 6 → (done u).rspStatus ≠ 6) :
    NoNewLuxDomain s (writeStep reg b done s) := by
  intro t ht hs
  obtain ⟨-, rfl⟩ | ⟨-, rfl⟩ := writeStep_cases ht
  · exact hdone _ hs
  · exact nofun

theorem NoNewLuxDomain.readByte {done : Byte → State → State}
    (hdone : ∀ b0 (u : State), u.rspStatus ≠ 6 → (done b0 u).rspStatus ≠ 6) :
    NoNewLuxDomain s (readByteStep reg done s) := by
  intro t ht hs
  obtain ⟨-, rfl⟩ | ⟨-, rfl⟩ := readByteStep_cases ht
  · exact hdone _ _ hs
  · exact nofun

theorem NoNewLuxDomain.fault {r : Fault} : NoNewLuxDomain s (.fault r) := nofun

theorem setModeStep_noNewLuxDomain {m : Mode} {T : Terminal} (hq : s.seqState ≠ .idle) :
    NoNewLuxDomain s (setModeStep i m T s) := by
  unfold setModeStep
  cases hs : s.seqState with
  | idle => exact absurd hs hq
  | clr0 | clr1 => exact .write fun _ hu => hu
  | clr2 =>
    refine .write fun u hu => ?_
    obtain ⟨-, h⟩ | ⟨_, -, h⟩ := afterClear_cases T u <;> rw [h]
    · exact nofun
    · exact hu
  | mwr =>
    cases T with
    | none => exact .fault
    | some w => exact .write fun _ _ => nofun
  | trig | poll | res | gwr | pwr => exact .fault

theorem afterStatus_rspStatus_ne {ch : Channel} {u : State} (hu : u.rspStatus ≠ 6) :
    (afterStatus ch b u).rspStatus ≠ 6 := by
  obtain ⟨-, h⟩ | ⟨-, -, h⟩ | ⟨-, -, h⟩ := afterStatus_cases ch b u <;> rw [h]
  · exact hu
  · exact nofun
  · exact hu

theorem measureStep_noNewLuxDomain {m : Mode} {ch : Channel} {resultStep : State → Out} (hq : s.seqState ≠ .idle)
    (hres : NoNewLuxDomain s (resultStep s)) : NoNewLuxDomain s (measureStep i m ch resultStep s) := by
  unfold measureStep
  cases hs : s.seqState with
  | idle => exact absurd hs hq
  | clr0 | clr1 | clr2 | trig => exact .write fun _ hu => hu
  | poll => exact .readByte fun _ _ hu => afterStatus_rspStatus_ne hu
  | res => exact hres
  | mwr | gwr | pwr => exact .fault

theorem rangeResultStep_noNewLuxDomain : NoNewLuxDomain s (rangeResultStep s) := .readByte fun _ _ _ => nofun

/-- With a stored period of at least 1 the ALS result is in the lux domain (R161). -/
theorem alsResultStep_noNewLuxDomain (hperiod : 1 ≤ s.cfgIPeriod.toInt) : NoNewLuxDomain s (alsResultStep s) := by
  intro t ht hs
  obtain ⟨-, rfl⟩ | ⟨-, rfl⟩ := readPairStep_cases ht
  · obtain ⟨hdomain, -⟩ | ⟨-, h⟩ := afterAlsResult_cases s.nextDraw.b0 s.nextDraw.b1 (s.memRead regAlsResult 2)
    · exact absurd (hperiod.trans hdomain) (by decide)
    · rw [h]
      exact nofun
  · exact nofun

/-- An accept step answers no `LUX_DOMAIN`, whatever the command. -/
theorem exec_idle_noNewLuxDomain (hq : s.seqState = .idle) : NoNewLuxDomain s (exec i s) := by
  intro t ht hs
  have hrefused := exec_refused hq ht
  cases exec_idle hq ht with
  | start => exact hs
  | refuse st =>
    obtain ⟨-, h | h⟩ := hrefused rfl <;> exact h.trans_ne (by decide)

/-- With a stored period of at least 1 no step of a command answers `LUX_DOMAIN`. -/
theorem exec_noNewLuxDomain (hperiod : 1 ≤ s.cfgIPeriod.toInt) : NoNewLuxDomain s (exec i s) := by
  by_cases hq : s.seqState = .idle
  · exact exec_idle_noNewLuxDomain hq
  cases i with
  | clrmodes =>
    obtain ⟨m, h⟩ := exec_modeCommand_busy (i := .clrmodes) (by decide) hq
    rw [h]
    exact setModeStep_noNewLuxDomain hq
  | setmodeRss | setmodeAss | setmodeAcont | setmodeRcont | setmodeRcontAss | setmodeRssAcont | setmodeIlv =>
    exact setModeStep_noNewLuxDomain hq
  | rdrangeSs => exact measureStep_noNewLuxDomain hq rangeResultStep_noNewLuxDomain
  | rdalsSs => exact measureStep_noNewLuxDomain hq (alsResultStep_noNewLuxDomain hperiod)
  | setgain x =>
    rw [exec, execSetgain]
    cases hs : s.seqState with
    | idle => exact absurd hs hq
    | gwr => exact .write fun _ _ => nofun
    | clr0 | clr1 | clr2 | mwr | trig | poll | res | pwr => exact .fault
  | setperiod ms =>
    rw [exec, execSetperiod]
    cases hs : s.seqState with
    | idle => exact absurd hs hq
    | pwr => exact .write fun _ _ => nofun
    | clr0 | clr1 | clr2 | mwr | trig | poll | res | gwr => exact .fault
  | rdrangeCont | rdalsCont =>
    intro t ht
    obtain ⟨hidle, -⟩ | ⟨hi, -⟩ := exec_cases ht
    · exact absurd hidle hq
    · cases hi

end

/-- Settles O55: strict parameters keep the stored period in the lux domain. -/
theorem strictParametersExcludeLuxDomain : Obligations.StrictParametersExcludeLuxDomain := by
  intro i s t hinv hstrict ht
  obtain ⟨hlo, -⟩ := hinv.strictPeriod hstrict
  exact exec_noNewLuxDomain hlo t ht

end Sys2Proof.Machine

namespace Sys2Proof.Machine

/-! ## A transaction answered `fail` (R236) -/

/-- The oracle of `s` replaced by these answers. -/
def State.withAnswers (answers : List BusDraw) (s : State) : State := { s with busAnswers := answers }

section
variable {i : Instr} {s : State} {q : SeqState}

theorem ne_idle_of_standsIn (hq : i.standsIn q = true) : q ≠ .idle := by
  rintro rfl
  cases (standsIn_idle i).symm.trans hq

/-- In its control states a command answers a `fail` by `Respond(TRANSPORT_FAILURE, 0)` and does nothing else. -/
theorem exec_of_fail (hi : i.standsIn s.seqState = true) (ha : s.nextDraw.ack = false) :
    ∃ x, dueTransaction i s = some x ∧ exec i s = .next ((s.issue x).respond .transportFailure 0) := by
  obtain ⟨-, t, -, ht, -⟩ := exec_of_standsIn hi
  obtain ⟨x, hx, rfl⟩ := exec_fail (ne_idle_of_standsIn hi) ha ht
  exact ⟨x, hx, ht⟩

/-- Outside `IDLE` and its control states a command has no step, whatever the bus answers. -/
theorem exec_of_not_standsIn (hq : s.seqState ≠ .idle) (hi : i.standsIn s.seqState = false) :
    exec i s = .fault .noTransition := by
  have hstep := exec_commandStep i s
  generalize exec i s = o at hstep ⊢
  cases hstep with
  | accept hidle => exact absurd hidle hq
  | bus hbus => cases hi.symm.trans hbus
  | stuck => rfl

variable {d e : BusDraw} (hd : d.ack = false) (he : e.ack = false)
include hd he

/-- The event of a failed transaction shows no byte of the answer. -/
theorem Transaction.event_of_fail (x : Transaction) (dev : DevAddr) : x.event dev d = x.event dev e := by
  cases x <;> simp [Transaction.event, hd, he]

/-- The state after a failed transaction does not depend on the bytes beside the `fail`. -/
theorem issue_of_fail (x : Transaction) (s : State) (rest : List BusDraw) :
    (s.withAnswers (d :: rest)).issue x = (s.withAnswers (e :: rest)).issue x :=
  congrArg (fun event => (s.afterBus [event]).withAnswers rest) (x.event_of_fail hd he s.cfgDevAddr)

/-- A step of the command in progress does not depend on the bytes beside a `fail`. -/
theorem exec_eq_of_fail (i : Instr) (hq : s.seqState ≠ .idle) (rest : List BusDraw) :
    exec i (s.withAnswers (d :: rest)) = exec i (s.withAnswers (e :: rest)) := by
  cases hi : i.standsIn s.seqState with
  | false =>
    have hstuck (answers : List BusDraw) : exec i (s.withAnswers answers) = .fault .noTransition :=
      exec_of_not_standsIn (s := s.withAnswers answers) hq hi
    rw [hstuck, hstuck]
  | true =>
    obtain ⟨x, hx, hexec⟩ := exec_of_fail (s := s.withAnswers (d :: rest)) hi hd
    obtain ⟨y, hy, hexec'⟩ := exec_of_fail (s := s.withAnswers (e :: rest)) hi he
    cases hx.symm.trans hy
    rw [hexec, hexec', issue_of_fail hd he]

/-- `exec_eq_of_fail` for the sequencer: the latches say which command is in progress, if any. -/
theorem sequencerStep_eq_of_fail (hq : s.seqState ≠ .idle) (rest : List BusDraw) :
    sequencerStep (s.withAnswers (d :: rest)) = sequencerStep (s.withAnswers (e :: rest)) := by
  cases hdec : decode s.latchedWord with
  | error r =>
    have hstuck (answers : List BusDraw) : sequencerStep (s.withAnswers answers) = .fault .noTransition :=
      sequencerStep_stuck (s := s.withAnswers answers) hq hdec
    rw [hstuck, hstuck]
  | ok i =>
    have hbusy (answers : List BusDraw) : sequencerStep (s.withAnswers answers) = exec i (s.withAnswers answers) :=
      sequencerStep_busy (s := s.withAnswers answers) hq hdec
    rw [hbusy, hbusy, exec_eq_of_fail hd he i hq rest]

end

/-- Settles O14: the failed transaction's response, in one record. -/
theorem failedTransactionEndsTheCommand : Obligations.FailedTransactionEndsTheCommand := by
  intro i s hi ha
  obtain ⟨x, hx, hexec⟩ := exec_of_fail hi ha
  exact ⟨x, hx, hexec.trans (congrArg _ (respond_afterBus s _ .transportFailure 0))⟩

/-- Settles O15: without reset the step is the sequencer's, which answers both `fail`s alike. -/
theorem bytesOfAFailedAnswerAreNotUsed : Obligations.BytesOfAFailedAnswerAreNotUsed := by
  intro s d e rest hq hr hd he
  have hstep (answers : List BusDraw) :
      step { s with busAnswers := answers } = sequencerStep (s.resetTick.withAnswers answers) :=
    step_noReset (s := s.withAnswers answers) hr
  rw [hstep, hstep]
  exact sequencerStep_eq_of_fail (s := s.resetTick) hd he hq rest

end Sys2Proof.Machine

namespace Sys2Proof.Machine

/-! ## Each accepted command is answered once (R246)

Between its `Accept` and its response a command owes one answer; what pays it or leaves it owed keeps the count. -/

/-- One accepted command of the trace has no response yet. -/
def State.OwesAnswer (s : State) : Prop := s.trace.countP Event.isAccept = s.trace.countP Event.isResp + 1

section
variable {i : Instr} {s t u : State}

theorem balanced_iff_owesAnswer (hq : s.seqState ≠ .idle) : s.Balanced ↔ s.OwesAnswer := by
  rw [State.Balanced, if_neg hq, State.OwesAnswer]

theorem State.Balanced.takeCommand (h : s.Balanced) (hq : s.seqState = .idle) (w : CmdWord)
    (rest : List CmdWord) : (s.takeCommand w rest).OwesAnswer := by
  rw [State.Balanced, if_pos hq] at h
  simp [State.OwesAnswer, Event.isAccept, Event.isResp, h]

/-- The response pays the answer owed, and the sequencer is in `IDLE`. -/
theorem State.OwesAnswer.respond (h : s.OwesAnswer) (st : Status) (r : Word32) : (s.respond st r).Balanced := by
  rw [State.OwesAnswer] at h
  simp [State.Balanced, Event.isAccept, Event.isResp, h]

/-- A transaction is neither an accept nor a response. -/
theorem State.OwesAnswer.issue (h : s.OwesAnswer) (x : Transaction) : (s.issue x).OwesAnswer := by
  rw [State.OwesAnswer] at h
  cases x <;> simp [State.OwesAnswer, State.issue, Transaction.event, Event.isAccept, Event.isResp, h]

theorem Accepted.balanced (hacc : Accepted i s t) (h : s.OwesAnswer) : t.Balanced := by
  cases hacc with
  | start q tier hq => exact (balanced_iff_owesAnswer (ne_idle_of_standsIn hq)).mpr h
  | refuse st => exact State.OwesAnswer.respond (s := s.latch i) h st 0

theorem Answered.balanced (hans : Answered i u t) (h : u.OwesAnswer) : t.Balanced := by
  cases hans with
  | goOn q polls hq => exact (balanced_iff_owesAnswer (ne_idle_of_standsIn hq)).mpr h
  | finish tier period polls st r =>
    exact State.OwesAnswer.respond (s := { u with cfgGainIdx := tier, cfgIPeriod := period, pollCnt := polls }) h st r

/-- A step of a command that owes its answer gives it or goes on. -/
theorem exec_balanced (h : s.OwesAnswer) (hex : exec i s = .next t) : t.Balanced := by
  obtain ⟨-, hacc⟩ | ⟨-, x, -, hans⟩ := exec_cases hex
  · exact hacc.balanced h
  · exact hans.balanced (h.issue x)

theorem State.Balanced.sequencerStep (h : s.Balanced) (hstep : sequencerStep s = .next t) : t.Balanced := by
  obtain ⟨-, -, rfl⟩ | ⟨w, rest, e, hq, -, -, rfl⟩ | ⟨w, rest, i, hq, -, -, hex⟩ | ⟨i, hq, -, hex⟩ :=
    sequencerStep_cases hstep
  · exact h
  · exact (h.takeCommand hq w rest).respond .illegalCommand 0
  · exact exec_balanced (h.takeCommand hq w rest) hex
  · exact exec_balanced ((balanced_iff_owesAnswer hq).mp h) hex

end

/-- Settles O47: the step is the sequencer's, and the reset input is no part of the count. -/
theorem everyAcceptedCommandIsAnsweredOnce : Obligations.EveryAcceptedCommandIsAnsweredOnce := by
  intro s t h hr hstep
  exact State.Balanced.sequencerStep (s := s.resetTick) h ((step_noReset hr).symm.trans hstep)

end Sys2Proof.Machine

namespace Sys2Proof.Machine

/-! ## The statuses a command can end with (R230, R231) -/

/-- R231's matrix: the status codes with which the command `i` can end by a step from `s`. -/
inductive MayEndWith (i : Instr) (s : State) : BitVec 8 → Prop
  | ok (hr : i ≠ .rdrangeCont) (ha : i ≠ .rdalsCont) : MayEndWith i s 0
  | transportFailure (hr : i ≠ .rdrangeCont) (ha : i ≠ .rdalsCont) : MayEndWith i s 1
  | invalidParameter (hstrict : s.params.strictParams = true)
      (hi : (∃ x, i = .setgain x) ∨ (∃ ms, i = .setperiod ms)) : MayEndWith i s 2
  | timeout (hlimit : ∃ n, s.params.pollLimit = some n) (hi : i = .rdrangeSs ∨ i = .rdalsSs) : MayEndWith i s 3
  | unimplemented (hi : i = .rdrangeCont ∨ i = .rdalsCont) : MayEndWith i s 5
  | luxDomain (hi : i = .rdalsSs) (hperiod : s.cfgIPeriod.toInt ≤ 0) : MayEndWith i s 6

/-- If the outcome `o` is a next state in `IDLE`, then its status satisfies `P`. -/
def EndsWith (P : BitVec 8 → Prop) (o : Out) : Prop := ∀ t, o = .next t → t.seqState = .idle → P t.rspStatus

section
variable {P : BitVec 8 → Prop} {i : Instr} {s u : State} {reg : RegAddr} {b : Byte}

theorem EndsWith.fault {r : Fault} : EndsWith P (.fault r) := nofun

theorem EndsWith.next (h : u.seqState = .idle → P u.rspStatus) : EndsWith P (.next u) := by
  rintro t ⟨⟩
  exact h

theorem EndsWith.write {done : State → State} (hfail : P 1)
    (hdone : (done (s.memWrite reg b)).seqState = .idle → P (done (s.memWrite reg b)).rspStatus) :
    EndsWith P (writeStep reg b done s) := by
  intro t ht
  obtain ⟨-, rfl⟩ | ⟨-, rfl⟩ := writeStep_cases ht
  · exact hdone
  · exact fun _ => hfail

theorem EndsWith.readByte {done : Byte → State → State} (hfail : P 1)
    (hdone : ∀ b0, (done b0 (s.memRead reg 1)).seqState = .idle → P (done b0 (s.memRead reg 1)).rspStatus) :
    EndsWith P (readByteStep reg done s) := by
  intro t ht
  obtain ⟨-, rfl⟩ | ⟨-, rfl⟩ := readByteStep_cases ht
  · exact hdone _
  · exact fun _ => hfail

/-- `CLRM` ends with its third write's response or by a failure. -/
theorem execClrmodes_endsWith (hok : P 0) (hfail : P 1) : EndsWith P (execClrmodes s) := by
  unfold execClrmodes
  cases hs : s.seqState with
  | idle => exact .next nofun
  | clr0 | clr1 => exact .write hfail nofun
  | clr2 => exact .write hfail fun _ => hok
  | mwr | trig | poll | res | gwr | pwr => exact .fault

theorem setModeStep_endsWith {m : Mode} {T : Terminal} (hok : P 0) (hfail : P 1) :
    EndsWith P (setModeStep i m T s) := by
  unfold setModeStep
  cases hs : s.seqState with
  | idle => exact .next nofun
  | clr0 | clr1 => exact .write hfail nofun
  | clr2 =>
    cases T with
    | none => exact .write hfail fun _ => hok
    | some w => exact .write hfail nofun
  | mwr =>
    cases T with
    | none => exact .fault
    | some w => exact .write hfail fun _ => hok
  | trig | poll | res | gwr | pwr => exact .fault

/-- The poll ends a measurement only at a poll limit (R146). -/
theorem pollStep_endsWith {ch : Channel} (hfail : P 1) (hlimit : ∀ n, s.params.pollLimit = some n → P 3) :
    EndsWith P (pollStep ch s) := by
  refine .readByte hfail fun b0 => ?_
  obtain ⟨-, h⟩ | ⟨-, hl, h⟩ | ⟨-, -, h⟩ := afterStatus_cases ch b0 (s.memRead regIntStatus 1) <;> rw [h]
  · exact nofun
  · exact fun _ => hlimit _ hl
  · exact nofun

theorem measureStep_endsWith {m : Mode} {ch : Channel} {resultStep : State → Out} (hfail : P 1)
    (hlimit : ∀ n, s.params.pollLimit = some n → P 3) (hres : EndsWith P (resultStep s)) :
    EndsWith P (measureStep i m ch resultStep s) := by
  unfold measureStep
  cases hs : s.seqState with
  | idle => exact .next nofun
  | clr0 | clr1 | clr2 | trig => exact .write hfail nofun
  | poll => exact pollStep_endsWith hfail hlimit
  | res => exact hres
  | mwr | gwr | pwr => exact .fault

/-- The ALS result ends outside the lux domain only with a stored period at or below 0 (R161). -/
theorem alsResultStep_endsWith (hok : P 0) (hfail : P 1) (hlux : s.cfgIPeriod.toInt ≤ 0 → P 6) :
    EndsWith P (alsResultStep s) := by
  intro t ht
  obtain ⟨-, rfl⟩ | ⟨-, rfl⟩ := readPairStep_cases ht
  · obtain ⟨hperiod, h⟩ | ⟨-, h⟩ := afterAlsResult_cases s.nextDraw.b0 s.nextDraw.b1 (s.memRead regAlsResult 2)
    · rw [h]
      exact fun _ => hlux hperiod
    · rw [h]
      exact fun _ => hok
  · exact fun _ => hfail

/-- `SETG` ends at its accept step only by the strict check (R201). -/
theorem execSetgain_endsWith (x : Word32) (hok : P 0) (hfail : P 1)
    (hstrict : s.params.strictParams = true → P 2) : EndsWith P (execSetgain x s) := by
  unfold execSetgain
  cases hs : s.seqState with
  | idle =>
    refine .next ?_
    obtain ⟨hparams, -, h⟩ | ⟨-, h⟩ := acceptGain_cases (s.latch (.setgain x)) <;> rw [h]
    · exact fun _ => hstrict hparams
    · exact nofun
  | gwr => exact .write hfail fun _ => hok
  | clr0 | clr1 | clr2 | mwr | trig | poll | res | pwr => exact .fault

/-- `SETP` ends at its accept step only by the strict check (R212). -/
theorem execSetperiod_endsWith (ms : Word32) (hok : P 0) (hfail : P 1)
    (hstrict : s.params.strictParams = true → P 2) : EndsWith P (execSetperiod ms s) := by
  unfold execSetperiod
  cases hs : s.seqState with
  | idle =>
    refine .next ?_
    obtain ⟨hparams, -, h⟩ | ⟨-, h⟩ := acceptPeriod_cases (s.latch (.setperiod ms)) <;> rw [h]
    · exact fun _ => hstrict hparams
    · exact nofun
  | pwr => exact .write hfail fun _ => hok
  | clr0 | clr1 | clr2 | mwr | trig | poll | res | gwr => exact .fault

theorem unimplementedStep_endsWith (h : P 5) : EndsWith P (unimplementedStep i s) := by
  unfold unimplementedStep
  cases hs : s.seqState with
  | idle => exact .next fun _ => h
  | clr0 | clr1 | clr2 | mwr | trig | poll | res | gwr | pwr => exact .fault

/-- Every command's step that ends it ends it with a status of the command's row. -/
theorem exec_endsWith (i : Instr) (s : State) : EndsWith (MayEndWith i s) (exec i s) := by
  cases i with
  | clrmodes => exact execClrmodes_endsWith (.ok nofun nofun) (.transportFailure nofun nofun)
  | setmodeRss | setmodeAss | setmodeAcont | setmodeRcont | setmodeRcontAss | setmodeRssAcont | setmodeIlv =>
    exact setModeStep_endsWith (.ok nofun nofun) (.transportFailure nofun nofun)
  | rdrangeSs =>
    exact measureStep_endsWith (.transportFailure nofun nofun) (fun n hn => .timeout ⟨n, hn⟩ (.inl rfl))
      (.readByte (.transportFailure nofun nofun) fun _ _ => .ok nofun nofun)
  | rdalsSs =>
    exact measureStep_endsWith (.transportFailure nofun nofun) (fun n hn => .timeout ⟨n, hn⟩ (.inr rfl))
      (alsResultStep_endsWith (.ok nofun nofun) (.transportFailure nofun nofun) (.luxDomain rfl))
  | setgain x =>
    exact execSetgain_endsWith x (.ok nofun nofun) (.transportFailure nofun nofun)
      (.invalidParameter · (.inl ⟨x, rfl⟩))
  | setperiod ms =>
    exact execSetperiod_endsWith ms (.ok nofun nofun) (.transportFailure nofun nofun)
      (.invalidParameter · (.inr ⟨ms, rfl⟩))
  | rdrangeCont => exact unimplementedStep_endsWith (.unimplemented (.inl rfl))
  | rdalsCont => exact unimplementedStep_endsWith (.unimplemented (.inr rfl))

end

/-- Settles O54: the statement's cases are the rows of `MayEndWith`. -/
theorem statusesEachCommandCanEndWith : Obligations.StatusesEachCommandCanEndWith := by
  intro i s t hex ht
  have hend := exec_endsWith i s t hex ht
  generalize t.rspStatus = st at hend ⊢
  cases hend with
  | ok hr ha => exact .inl ⟨rfl, hr, ha⟩
  | transportFailure hr ha => exact .inr (.inl ⟨rfl, hr, ha⟩)
  | invalidParameter hstrict hi => exact .inr (.inr (.inl ⟨rfl, hstrict, hi⟩))
  | timeout hlimit hi => exact .inr (.inr (.inr (.inl ⟨rfl, hlimit, hi⟩)))
  | unimplemented hi => exact .inr (.inr (.inr (.inr (.inl ⟨rfl, hi⟩))))
  | luxDomain hi hperiod => exact .inr (.inr (.inr (.inr (.inr ⟨rfl, hi, hperiod⟩))))

end Sys2Proof.Machine

namespace Sys2Proof.Machine

/-! ## Waiting and leaving a poll by reset (R270 to R272, R284) -/

section
variable {i : Instr} {s : State} {w : CmdWord} {rest : List CmdWord}

/-- The accept of a legal word completes; past `Accept(w)` it records no transaction. -/
theorem step_accept_noBus (hq : s.seqState = .idle) (hr : s.resetIn.headD false = false)
    (hc : s.hostCmds = w :: rest) (hd : decode w = .ok i) :
    ∃ u, step s = .next u ∧ ∃ evs, u.trace = s.trace ++ .accept w :: evs ∧ evs.countP Event.isBus = 0 := by
  obtain ⟨u, hu⟩ := exec_idle_completes (s := s.resetTick.takeCommand w rest) i hq
  have hacc : Accepted i (s.resetTick.takeCommand w rest) u := exec_idle hq hu
  obtain ⟨evs, htrace, hbus, -, -⟩ := hacc.issued
  have hstep : step s = .next u := (step_accept hq hr hc).trans ((acceptStep_ok hd).trans hu)
  exact ⟨u, hstep, evs, htrace.trans (List.append_assoc ..), hbus⟩

end

/-- Settles O9: without reset and without a word the sequencer waits, and only the reset input moves on. -/
theorem idleWithoutACommandWaits : Obligations.IdleWithoutACommandWaits := by
  intro s hq hr hc
  rw [step_noReset hr]
  exact sequencerStep_wait (s := s.resetTick) hq hc

/-- Settles O56: reset leaves `POLL` for `IDLE` and records nothing, and from there the host's word is accepted. -/
theorem resetLeavesAHangingPoll : Obligations.ResetLeavesAHangingPoll := by
  intro s w rest i _ hr hc hd
  have hreset : step s = .next s.resetTick.assertReset := step_reset (by rw [State.resetAsserted, hr]; rfl)
  have hr' : s.resetTick.assertReset.resetIn.headD false = false := by
    rw [assertReset_resetIn, resetTick_resetIn, hr]; rfl
  obtain ⟨u, hu, evs, htrace, hbus⟩ := step_accept_noBus (s := s.resetTick.assertReset) rfl hr' hc hd
  exact ⟨_, u, hreset, rfl, hu, evs, htrace, hbus⟩

end Sys2Proof.Machine
